-- ==== Sys2Proof/Word.lean ====
section
/-! DEFINITION. The word types of the G65SC802 / G65SC816: bytes, 16-bit words and 24-bit addresses (R8, R51). -/

namespace Sys2Proof

/-- One byte of memory, and the width of DBR, PBR and P (R20). -/
abbrev Byte := BitVec 8

/-- The width of C, X, Y, S, D and PC (R20). -/
abbrev Word := BitVec 16

/-- A 24-bit address, bank byte in bits 23:16 (R60). -/
abbrev Addr := BitVec 24

end Sys2Proof
end

