-- ==== Sys2Proof/Config.lean ====
section
/-! DEFINITION. What an implementation fixes (R7) and the values the spec leaves open (R163 (c), R353). -/

namespace Sys2Proof

/-- The parameter `VARIANT` of R7: which of the two parts is modelled. -/
inductive Variant where
  /-- The 40-pin part: 16 address bits reach the memory system, SO input, no ABORT input. -/
  | g65sc802
  /-- The 24-bit part: 24 address bits reach the memory system, ABORT input, no SO input. -/
  | g65sc816
deriving DecidableEq, Repr

/-- The parameters of R7 that stay open, and the package of R3, held as plain data in the state so that every statement
about all states holds for each of their values (DESIGN CHOICE, log 4, log 5 and log 26). No step changes them. -/
structure Config where
  /-- `VARIANT` (D1). -/
  variant : Variant
  /-- `ABORT_WRITES` (D13): true when an aborted instruction's memory writes are performed. -/
  abortWrites : Bool
  /-- The 44-pin package of the G65SC802, which also brings out E, ML and VP (R3); it has no meaning for the G65SC816
  (log 26). -/
  pins44 : Bool
deriving DecidableEq, Repr

/-- The two operations that read the decimal flag (R171 (a)). -/
inductive DecimalOp where
  /-- ADC. -/
  | add
  /-- SBC. -/
  | sub
deriving DecidableEq, Repr

/-- The items of the reset table that hold no specified value after RES (R52, R53). -/
structure ResetUnknowns where
  /-- The accumulator, B and A. -/
  c : Word
  /-- The low byte of X. -/
  xl : Byte
  /-- The low byte of Y. -/
  yl : Byte
  /-- The low byte of S. -/
  sl : Byte
  /-- P.N. -/
  n : Bool
  /-- P.V. -/
  v : Bool
  /-- P.Z. -/
  z : Bool
  /-- P.C. -/
  carry : Bool
deriving DecidableEq, Repr, Inhabited

namespace Config

/-- Free value: what the registers a reset does not initialise hold after the `k`-th reset event (R353, U1; log 3). -/
opaque resetUnknowns (k : Nat) : ResetUnknowns

/-- Free value: the two levels of the M/X pin, while it shows M and while it shows X, in the cycle after a change of M or X,
which the spec calls invalid (R45, U5); `k` counts such changes, `n` is the place of the cycle in its step (log 28). -/
opaque invalidMX (k n : Nat) : Bool × Bool

/-- Free value: whether an NMI whose sequence an ABORT breaks off too late to protect P (R314) stays latched; `k` counts the
late ABORTs. The spec says of the registers what such an ABORT leaves, not of the latch (log 24). -/
opaque latchKeptByLateAbort (k : Nat) : Bool

/-- Free value: whether VDA or VPA is the one that is high while JMP `(a,x)` or JSR `(a,x)` reads a byte of its pointer
table in the program bank; the spec transcribes neither for that cycle (log 27). -/
opaque tablePointerIsData : Bool

/-- Free value: V after a decimal ADC or SBC, a function of the operands and the carry in (R163 (c), U2; log 9). -/
opaque decimalOverflow (op : DecimalOp) (w : Nat) (a m : BitVec w) (c : Bool) : Bool

/-- Free value: the result of a decimal ADC or SBC with an operand that is not valid BCD (R163 (c), U2; log 9). -/
opaque decimalInvalidResult (op : DecimalOp) (w : Nat) (a m : BitVec w) (c : Bool) : BitVec w

/-- Free value: the carry of a decimal ADC or SBC with an operand that is not valid BCD (R163 (c), U2; log 9). -/
opaque decimalInvalidCarry (op : DecimalOp) (w : Nat) (a m : BitVec w) (c : Bool) : Bool

end Config

end Sys2Proof
end

