-- ==== Sys2Proof/Machine/Bytes.lean ====
section
/-! DEFINITION. Byte order and field helpers: how bytes make words and addresses (R8, R62), and the extensions of R92. -/

namespace Sys2Proof

/-- `v[7:0]` of a 16-bit value. -/
def loByte (v : Word) : Byte := v.extractLsb' 0 8

/-- `v[15:8]` of a 16-bit value. -/
def hiByte (v : Word) : Byte := v.extractLsb' 8 8

/-- `hi:lo`, the left part more significant (R8). -/
def mkWord (hi lo : Byte) : Word := hi ++ lo

/-- `bank:offset` as a 24-bit address (R60). -/
def mkAddr (bank : Byte) (off : Word) : Addr := bank ++ off

/-- `a[15:0]`, the offset of an address in its bank. -/
def addrOff (a : Addr) : Word := a.extractLsb' 0 16

/-- `a[23:16]`, the bank byte of an address. -/
def addrBank (a : Addr) : Byte := a.extractLsb' 16 8

/-- `sext_16` of a byte (R10, R92). -/
def sext16 (b : Byte) : Word := b.signExtend 16

/-- `zext_16` of a byte (R10, R92): `00:b`. -/
def zext16 (b : Byte) : Word := b.setWidth 16

/-- `zext_24` of a word (R111). -/
def zext24 (v : Word) : Addr := v.setWidth 24

end Sys2Proof
end

