-- ==== Sys2Proof/Syntax.lean ====
section
/-! DEFINITION. The instructions: one constructor per row of spec/opcode_table.json (R97), with the operand bytes of
R91 and R92 assembled, and the view of an instruction as an operation on an addressing mode (R138). -/

namespace Sys2Proof

/-- An immediate operand: one byte or two, as the width selector says when the instruction is decoded (R93). -/
inductive Imm where
  /-- The two-byte form's operand. -/
  | byte (v : Byte)
  /-- The three-byte form's operand. -/
  | word (v : Word)
deriving DecidableEq, Repr

/-- The addressing modes that name a memory operand (R117 to R129, R135, R136), with their operand bytes. -/
inductive MemMode where
  /-- `d` (R122). -/
  | dir (o : Byte)
  /-- `d,x` (R123). -/
  | dirX (o : Byte)
  /-- `d,y` (R124). -/
  | dirY (o : Byte)
  /-- `(d)` (R125). -/
  | dirInd (o : Byte)
  /-- `(d,x)` (R126). -/
  | dirXInd (o : Byte)
  /-- `(d),y` (R127). -/
  | dirIndY (o : Byte)
  /-- `[d]` (R128). -/
  | dirIndLong (o : Byte)
  /-- `[d],y` (R129). -/
  | dirIndLongY (o : Byte)
  /-- `a` (R117). -/
  | abs (a : Word)
  /-- `a,x` (R119). -/
  | absX (a : Word)
  /-- `a,y` (R120). -/
  | absY (a : Word)
  /-- `al` (R118). -/
  | long (a : Addr)
  /-- `al,x` (R121). -/
  | longX (a : Addr)
  /-- `d,s` (R135). -/
  | stkRel (o : Byte)
  /-- `(d,s),y` (R136). -/
  | stkRelIndY (o : Byte)
deriving DecidableEq, Repr

/-- A source operand: immediate (R114) or in memory. -/
inductive Src where
  /-- `#`. -/
  | imm (v : Imm)
  /-- A memory mode. -/
  | mem (m : MemMode)
deriving DecidableEq, Repr

/-- The 91 mnemonics of the spec (R1, R97) and the reserved opcode 42 (R99). -/
inductive Mnemonic where
  | BRK | ORA | COP | TSB | ASL | PHP | PHD | BPL | TRB | CLC | INC | TCS | JSR | AND | JSL | BIT | ROL | PLP
  | PLD | BMI | SEC | DEC | TSC | RTI | EOR | RESERVED | MVP | LSR | PHA | PHK | JMP | BVC | MVN | CLI | PHY
  | TCD | RTS | ADC | PER | STZ | ROR | PLA | RTL | BVS | SEI | PLY | TDC | BRA | STA | BRL | STY | STX | DEY
  | TXA | PHB | BCC | TYA | TXS | TXY | LDY | LDA | LDX | TAY | TAX | PLB | BCS | CLV | TSX | TYX | CPY | CMP
  | REP | INY | DEX | WAI | BNE | PEI | CLD | PHX | STP | JML | CPX | SBC | SEP | INX | NOP | XBA | BEQ | PEA
  | SED | PLX | XCE
deriving DecidableEq, Repr

/-- The instructions, one constructor per cell of the opcode matrix (R97): opcode, mnemonic and mode stand in each
docstring. Those with operand bytes come first, each group in opcode order (Lean's run-time takes at most 244
constructors that carry data). -/
inductive Instr where
  /-- 00 BRK. -/
  | brk (sig : Byte)
  /-- 01 ORA `(d,x)`. -/
  | oraDirXInd (o : Byte)
  /-- 02 COP. -/
  | cop (sig : Byte)
  /-- 03 ORA `d,s`. -/
  | oraStkRel (o : Byte)
  /-- 04 TSB `d`. -/
  | tsbDir (o : Byte)
  /-- 05 ORA `d`. -/
  | oraDir (o : Byte)
  /-- 06 ASL `d`. -/
  | aslDir (o : Byte)
  /-- 07 ORA `[d]`. -/
  | oraDirIndLong (o : Byte)
  /-- 09 ORA `#`. -/
  | oraImm (v : Imm)
  /-- 0C TSB `a`. -/
  | tsbAbs (a : Word)
  /-- 0D ORA `a`. -/
  | oraAbs (a : Word)
  /-- 0E ASL `a`. -/
  | aslAbs (a : Word)
  /-- 0F ORA `al`. -/
  | oraLong (a : Addr)
  /-- 10 BPL `r`. -/
  | bpl (r : Byte)
  /-- 11 ORA `(d),y`. -/
  | oraDirIndY (o : Byte)
  /-- 12 ORA `(d)`. -/
  | oraDirInd (o : Byte)
  /-- 13 ORA `(d,s),y`. -/
  | oraStkRelIndY (o : Byte)
  /-- 14 TRB `d`. -/
  | trbDir (o : Byte)
  /-- 15 ORA `d,x`. -/
  | oraDirX (o : Byte)
  /-- 16 ASL `d,x`. -/
  | aslDirX (o : Byte)
  /-- 17 ORA `[d],y`. -/
  | oraDirIndLongY (o : Byte)
  /-- 19 ORA `a,y`. -/
  | oraAbsY (a : Word)
  /-- 1C TRB `a`. -/
  | trbAbs (a : Word)
  /-- 1D ORA `a,x`. -/
  | oraAbsX (a : Word)
  /-- 1E ASL `a,x`. -/
  | aslAbsX (a : Word)
  /-- 1F ORA `al,x`. -/
  | oraLongX (a : Addr)
  /-- 20 JSR `a`. -/
  | jsrAbs (a : Word)
  /-- 21 AND `(d,x)`. -/
  | andDirXInd (o : Byte)
  /-- 22 JSL `al`. -/
  | jsl (a : Addr)
  /-- 23 AND `d,s`. -/
  | andStkRel (o : Byte)
  /-- 24 BIT `d`. -/
  | bitDir (o : Byte)
  /-- 25 AND `d`. -/
  | andDir (o : Byte)
  /-- 26 ROL `d`. -/
  | rolDir (o : Byte)
  /-- 27 AND `[d]`. -/
  | andDirIndLong (o : Byte)
  /-- 29 AND `#`. -/
  | andImm (v : Imm)
  /-- 2C BIT `a`. -/
  | bitAbs (a : Word)
  /-- 2D AND `a`. -/
  | andAbs (a : Word)
  /-- 2E ROL `a`. -/
  | rolAbs (a : Word)
  /-- 2F AND `al`. -/
  | andLong (a : Addr)
  /-- 30 BMI `r`. -/
  | bmi (r : Byte)
  /-- 31 AND `(d),y`. -/
  | andDirIndY (o : Byte)
  /-- 32 AND `(d)`. -/
  | andDirInd (o : Byte)
  /-- 33 AND `(d,s),y`. -/
  | andStkRelIndY (o : Byte)
  /-- 34 BIT `d,x`. -/
  | bitDirX (o : Byte)
  /-- 35 AND `d,x`. -/
  | andDirX (o : Byte)
  /-- 36 ROL `d,x`. -/
  | rolDirX (o : Byte)
  /-- 37 AND `[d],y`. -/
  | andDirIndLongY (o : Byte)
  /-- 39 AND `a,y`. -/
  | andAbsY (a : Word)
  /-- 3C BIT `a,x`. -/
  | bitAbsX (a : Word)
  /-- 3D AND `a,x`. -/
  | andAbsX (a : Word)
  /-- 3E ROL `a,x`. -/
  | rolAbsX (a : Word)
  /-- 3F AND `al,x`. -/
  | andLongX (a : Addr)
  /-- 41 EOR `(d,x)`. -/
  | eorDirXInd (o : Byte)
  /-- 42 reserved. -/
  | reserved42 (op8 : Byte)
  /-- 43 EOR `d,s`. -/
  | eorStkRel (o : Byte)
  /-- 44 MVP `x,y`. -/
  | mvp (dst : Byte) (src : Byte)
  /-- 45 EOR `d`. -/
  | eorDir (o : Byte)
  /-- 46 LSR `d`. -/
  | lsrDir (o : Byte)
  /-- 47 EOR `[d]`. -/
  | eorDirIndLong (o : Byte)
  /-- 49 EOR `#`. -/
  | eorImm (v : Imm)
  /-- 4C JMP `a`. -/
  | jmpAbs (a : Word)
  /-- 4D EOR `a`. -/
  | eorAbs (a : Word)
  /-- 4E LSR `a`. -/
  | lsrAbs (a : Word)
  /-- 4F EOR `al`. -/
  | eorLong (a : Addr)
  /-- 50 BVC `r`. -/
  | bvc (r : Byte)
  /-- 51 EOR `(d),y`. -/
  | eorDirIndY (o : Byte)
  /-- 52 EOR `(d)`. -/
  | eorDirInd (o : Byte)
  /-- 53 EOR `(d,s),y`. -/
  | eorStkRelIndY (o : Byte)
  /-- 54 MVN `x,y`. -/
  | mvn (dst : Byte) (src : Byte)
  /-- 55 EOR `d,x`. -/
  | eorDirX (o : Byte)
  /-- 56 LSR `d,x`. -/
  | lsrDirX (o : Byte)
  /-- 57 EOR `[d],y`. -/
  | eorDirIndLongY (o : Byte)
  /-- 59 EOR `a,y`. -/
  | eorAbsY (a : Word)
  /-- 5C JMP `al`. -/
  | jmpLong (a : Addr)
  /-- 5D EOR `a,x`. -/
  | eorAbsX (a : Word)
  /-- 5E LSR `a,x`. -/
  | lsrAbsX (a : Word)
  /-- 5F EOR `al,x`. -/
  | eorLongX (a : Addr)
  /-- 61 ADC `(d,x)`. -/
  | adcDirXInd (o : Byte)
  /-- 62 PER. -/
  | per (r : Word)
  /-- 63 ADC `d,s`. -/
  | adcStkRel (o : Byte)
  /-- 64 STZ `d`. -/
  | stzDir (o : Byte)
  /-- 65 ADC `d`. -/
  | adcDir (o : Byte)
  /-- 66 ROR `d`. -/
  | rorDir (o : Byte)
  /-- 67 ADC `[d]`. -/
  | adcDirIndLong (o : Byte)
  /-- 69 ADC `#`. -/
  | adcImm (v : Imm)
  /-- 6C JMP `(a)`. -/
  | jmpAbsInd (a : Word)
  /-- 6D ADC `a`. -/
  | adcAbs (a : Word)
  /-- 6E ROR `a`. -/
  | rorAbs (a : Word)
  /-- 6F ADC `al`. -/
  | adcLong (a : Addr)
  /-- 70 BVS `r`. -/
  | bvs (r : Byte)
  /-- 71 ADC `(d),y`. -/
  | adcDirIndY (o : Byte)
  /-- 72 ADC `(d)`. -/
  | adcDirInd (o : Byte)
  /-- 73 ADC `(d,s),y`. -/
  | adcStkRelIndY (o : Byte)
  /-- 74 STZ `d,x`. -/
  | stzDirX (o : Byte)
  /-- 75 ADC `d,x`. -/
  | adcDirX (o : Byte)
  /-- 76 ROR `d,x`. -/
  | rorDirX (o : Byte)
  /-- 77 ADC `[d],y`. -/
  | adcDirIndLongY (o : Byte)
  /-- 79 ADC `a,y`. -/
  | adcAbsY (a : Word)
  /-- 7C JMP `(a,x)`. -/
  | jmpAbsXInd (a : Word)
  /-- 7D ADC `a,x`. -/
  | adcAbsX (a : Word)
  /-- 7E ROR `a,x`. -/
  | rorAbsX (a : Word)
  /-- 7F ADC `al,x`. -/
  | adcLongX (a : Addr)
  /-- 80 BRA `r`. -/
  | bra (r : Byte)
  /-- 81 STA `(d,x)`. -/
  | staDirXInd (o : Byte)
  /-- 82 BRL `rl`. -/
  | brl (r : Word)
  /-- 83 STA `d,s`. -/
  | staStkRel (o : Byte)
  /-- 84 STY `d`. -/
  | styDir (o : Byte)
  /-- 85 STA `d`. -/
  | staDir (o : Byte)
  /-- 86 STX `d`. -/
  | stxDir (o : Byte)
  /-- 87 STA `[d]`. -/
  | staDirIndLong (o : Byte)
  /-- 89 BIT `#`. -/
  | bitImm (v : Imm)
  /-- 8C STY `a`. -/
  | styAbs (a : Word)
  /-- 8D STA `a`. -/
  | staAbs (a : Word)
  /-- 8E STX `a`. -/
  | stxAbs (a : Word)
  /-- 8F STA `al`. -/
  | staLong (a : Addr)
  /-- 90 BCC `r`. -/
  | bcc (r : Byte)
  /-- 91 STA `(d),y`. -/
  | staDirIndY (o : Byte)
  /-- 92 STA `(d)`. -/
  | staDirInd (o : Byte)
  /-- 93 STA `(d,s),y`. -/
  | staStkRelIndY (o : Byte)
  /-- 94 STY `d,x`. -/
  | styDirX (o : Byte)
  /-- 95 STA `d,x`. -/
  | staDirX (o : Byte)
  /-- 96 STX `d,y`. -/
  | stxDirY (o : Byte)
  /-- 97 STA `[d],y`. -/
  | staDirIndLongY (o : Byte)
  /-- 99 STA `a,y`. -/
  | staAbsY (a : Word)
  /-- 9C STZ `a`. -/
  | stzAbs (a : Word)
  /-- 9D STA `a,x`. -/
  | staAbsX (a : Word)
  /-- 9E STZ `a,x`. -/
  | stzAbsX (a : Word)
  /-- 9F STA `al,x`. -/
  | staLongX (a : Addr)
  /-- A0 LDY `#`. -/
  | ldyImm (v : Imm)
  /-- A1 LDA `(d,x)`. -/
  | ldaDirXInd (o : Byte)
  /-- A2 LDX `#`. -/
  | ldxImm (v : Imm)
  /-- A3 LDA `d,s`. -/
  | ldaStkRel (o : Byte)
  /-- A4 LDY `d`. -/
  | ldyDir (o : Byte)
  /-- A5 LDA `d`. -/
  | ldaDir (o : Byte)
  /-- A6 LDX `d`. -/
  | ldxDir (o : Byte)
  /-- A7 LDA `[d]`. -/
  | ldaDirIndLong (o : Byte)
  /-- A9 LDA `#`. -/
  | ldaImm (v : Imm)
  /-- AC LDY `a`. -/
  | ldyAbs (a : Word)
  /-- AD LDA `a`. -/
  | ldaAbs (a : Word)
  /-- AE LDX `a`. -/
  | ldxAbs (a : Word)
  /-- AF LDA `al`. -/
  | ldaLong (a : Addr)
  /-- B0 BCS `r`. -/
  | bcs (r : Byte)
  /-- B1 LDA `(d),y`. -/
  | ldaDirIndY (o : Byte)
  /-- B2 LDA `(d)`. -/
  | ldaDirInd (o : Byte)
  /-- B3 LDA `(d,s),y`. -/
  | ldaStkRelIndY (o : Byte)
  /-- B4 LDY `d,x`. -/
  | ldyDirX (o : Byte)
  /-- B5 LDA `d,x`. -/
  | ldaDirX (o : Byte)
  /-- B6 LDX `d,y`. -/
  | ldxDirY (o : Byte)
  /-- B7 LDA `[d],y`. -/
  | ldaDirIndLongY (o : Byte)
  /-- B9 LDA `a,y`. -/
  | ldaAbsY (a : Word)
  /-- BC LDY `a,x`. -/
  | ldyAbsX (a : Word)
  /-- BD LDA `a,x`. -/
  | ldaAbsX (a : Word)
  /-- BE LDX `a,y`. -/
  | ldxAbsY (a : Word)
  /-- BF LDA `al,x`. -/
  | ldaLongX (a : Addr)
  /-- C0 CPY `#`. -/
  | cpyImm (v : Imm)
  /-- C1 CMP `(d,x)`. -/
  | cmpDirXInd (o : Byte)
  /-- C2 REP `#`. -/
  | rep (mask : Byte)
  /-- C3 CMP `d,s`. -/
  | cmpStkRel (o : Byte)
  /-- C4 CPY `d`. -/
  | cpyDir (o : Byte)
  /-- C5 CMP `d`. -/
  | cmpDir (o : Byte)
  /-- C6 DEC `d`. -/
  | decDir (o : Byte)
  /-- C7 CMP `[d]`. -/
  | cmpDirIndLong (o : Byte)
  /-- C9 CMP `#`. -/
  | cmpImm (v : Imm)
  /-- CC CPY `a`. -/
  | cpyAbs (a : Word)
  /-- CD CMP `a`. -/
  | cmpAbs (a : Word)
  /-- CE DEC `a`. -/
  | decAbs (a : Word)
  /-- CF CMP `al`. -/
  | cmpLong (a : Addr)
  /-- D0 BNE `r`. -/
  | bne (r : Byte)
  /-- D1 CMP `(d),y`. -/
  | cmpDirIndY (o : Byte)
  /-- D2 CMP `(d)`. -/
  | cmpDirInd (o : Byte)
  /-- D3 CMP `(d,s),y`. -/
  | cmpStkRelIndY (o : Byte)
  /-- D4 PEI. -/
  | pei (o : Byte)
  /-- D5 CMP `d,x`. -/
  | cmpDirX (o : Byte)
  /-- D6 DEC `d,x`. -/
  | decDirX (o : Byte)
  /-- D7 CMP `[d],y`. -/
  | cmpDirIndLongY (o : Byte)
  /-- D9 CMP `a,y`. -/
  | cmpAbsY (a : Word)
  /-- DC JML `(a)`. -/
  | jml (a : Word)
  /-- DD CMP `a,x`. -/
  | cmpAbsX (a : Word)
  /-- DE DEC `a,x`. -/
  | decAbsX (a : Word)
  /-- DF CMP `al,x`. -/
  | cmpLongX (a : Addr)
  /-- E0 CPX `#`. -/
  | cpxImm (v : Imm)
  /-- E1 SBC `(d,x)`. -/
  | sbcDirXInd (o : Byte)
  /-- E2 SEP `#`. -/
  | sep (mask : Byte)
  /-- E3 SBC `d,s`. -/
  | sbcStkRel (o : Byte)
  /-- E4 CPX `d`. -/
  | cpxDir (o : Byte)
  /-- E5 SBC `d`. -/
  | sbcDir (o : Byte)
  /-- E6 INC `d`. -/
  | incDir (o : Byte)
  /-- E7 SBC `[d]`. -/
  | sbcDirIndLong (o : Byte)
  /-- E9 SBC `#`. -/
  | sbcImm (v : Imm)
  /-- EC CPX `a`. -/
  | cpxAbs (a : Word)
  /-- ED SBC `a`. -/
  | sbcAbs (a : Word)
  /-- EE INC `a`. -/
  | incAbs (a : Word)
  /-- EF SBC `al`. -/
  | sbcLong (a : Addr)
  /-- F0 BEQ `r`. -/
  | beq (r : Byte)
  /-- F1 SBC `(d),y`. -/
  | sbcDirIndY (o : Byte)
  /-- F2 SBC `(d)`. -/
  | sbcDirInd (o : Byte)
  /-- F3 SBC `(d,s),y`. -/
  | sbcStkRelIndY (o : Byte)
  /-- F4 PEA. -/
  | pea (v : Word)
  /-- F5 SBC `d,x`. -/
  | sbcDirX (o : Byte)
  /-- F6 INC `d,x`. -/
  | incDirX (o : Byte)
  /-- F7 SBC `[d],y`. -/
  | sbcDirIndLongY (o : Byte)
  /-- F9 SBC `a,y`. -/
  | sbcAbsY (a : Word)
  /-- FC JSR `(a,x)`. -/
  | jsrAbsXInd (a : Word)
  /-- FD SBC `a,x`. -/
  | sbcAbsX (a : Word)
  /-- FE INC `a,x`. -/
  | incAbsX (a : Word)
  /-- FF SBC `al,x`. -/
  | sbcLongX (a : Addr)
  /-- 08 PHP. -/
  | php
  /-- 0A ASL `A`. -/
  | aslAcc
  /-- 0B PHD. -/
  | phd
  /-- 18 CLC. -/
  | clc
  /-- 1A INC `A`. -/
  | incAcc
  /-- 1B TCS. -/
  | tcs
  /-- 28 PLP. -/
  | plp
  /-- 2A ROL `A`. -/
  | rolAcc
  /-- 2B PLD. -/
  | pld
  /-- 38 SEC. -/
  | sec
  /-- 3A DEC `A`. -/
  | decAcc
  /-- 3B TSC. -/
  | tsc
  /-- 40 RTI. -/
  | rti
  /-- 48 PHA. -/
  | pha
  /-- 4A LSR `A`. -/
  | lsrAcc
  /-- 4B PHK. -/
  | phk
  /-- 58 CLI. -/
  | cli
  /-- 5A PHY. -/
  | phy
  /-- 5B TCD. -/
  | tcd
  /-- 60 RTS. -/
  | rts
  /-- 68 PLA. -/
  | pla
  /-- 6A ROR `A`. -/
  | rorAcc
  /-- 6B RTL. -/
  | rtl
  /-- 78 SEI. -/
  | sei
  /-- 7A PLY. -/
  | ply
  /-- 7B TDC. -/
  | tdc
  /-- 88 DEY. -/
  | dey
  /-- 8A TXA. -/
  | txa
  /-- 8B PHB. -/
  | phb
  /-- 98 TYA. -/
  | tya
  /-- 9A TXS. -/
  | txs
  /-- 9B TXY. -/
  | txy
  /-- A8 TAY. -/
  | tay
  /-- AA TAX. -/
  | tax
  /-- AB PLB. -/
  | plb
  /-- B8 CLV. -/
  | clv
  /-- BA TSX. -/
  | tsx
  /-- BB TYX. -/
  | tyx
  /-- C8 INY. -/
  | iny
  /-- CA DEX. -/
  | dex
  /-- CB WAI. -/
  | wai
  /-- D8 CLD. -/
  | cld
  /-- DA PHX. -/
  | phx
  /-- DB STP. -/
  | stp
  /-- E8 INX. -/
  | inx
  /-- EA NOP. -/
  | nop
  /-- EB XBA. -/
  | xba
  /-- F8 SED. -/
  | sed
  /-- FA PLX. -/
  | plx
  /-- FB XCE. -/
  | xce
deriving DecidableEq, Repr

/-- An instruction seen as an operation on an addressing mode: how Tables 5 to 8 group the opcodes (R138). -/
inductive View where
  /-- Reads a source operand: ORA AND EOR ADC LDA CMP SBC BIT LDX LDY CPX CPY. -/
  | read (op : Mnemonic) (src : Src)
  /-- Stores: STA STX STY STZ. -/
  | write (op : Mnemonic) (dst : MemMode)
  /-- Read-modify-write of memory: ASL LSR ROL ROR INC DEC TRB TSB (R180). -/
  | modify (op : Mnemonic) (dst : MemMode)
  /-- Mode `A` (R115). -/
  | acc (op : Mnemonic)
  /-- A short branch (R190). -/
  | branch (op : Mnemonic) (r : Byte)
  /-- One byte long, modes `i` and `s` (R116, R134). -/
  | implied (op : Mnemonic)
  /-- Every other instruction, with the number of its operand bytes (R91, R95). -/
  | special (op : Mnemonic) (operandBytes : Nat)
deriving DecidableEq, Repr

/-- The view of each instruction, row by row from the opcode matrix (R97). -/
def Instr.view : Instr → View
  | .brk _ => .special .BRK 1
  | .oraDirXInd o => .read .ORA (.mem (.dirXInd o))
  | .cop _ => .special .COP 1
  | .oraStkRel o => .read .ORA (.mem (.stkRel o))
  | .tsbDir o => .modify .TSB (.dir o)
  | .oraDir o => .read .ORA (.mem (.dir o))
  | .aslDir o => .modify .ASL (.dir o)
  | .oraDirIndLong o => .read .ORA (.mem (.dirIndLong o))
  | .php => .implied .PHP
  | .oraImm v => .read .ORA (.imm v)
  | .aslAcc => .acc .ASL
  | .phd => .implied .PHD
  | .tsbAbs a => .modify .TSB (.abs a)
  | .oraAbs a => .read .ORA (.mem (.abs a))
  | .aslAbs a => .modify .ASL (.abs a)
  | .oraLong a => .read .ORA (.mem (.long a))
  | .bpl r => .branch .BPL r
  | .oraDirIndY o => .read .ORA (.mem (.dirIndY o))
  | .oraDirInd o => .read .ORA (.mem (.dirInd o))
  | .oraStkRelIndY o => .read .ORA (.mem (.stkRelIndY o))
  | .trbDir o => .modify .TRB (.dir o)
  | .oraDirX o => .read .ORA (.mem (.dirX o))
  | .aslDirX o => .modify .ASL (.dirX o)
  | .oraDirIndLongY o => .read .ORA (.mem (.dirIndLongY o))
  | .clc => .implied .CLC
  | .oraAbsY a => .read .ORA (.mem (.absY a))
  | .incAcc => .acc .INC
  | .tcs => .implied .TCS
  | .trbAbs a => .modify .TRB (.abs a)
  | .oraAbsX a => .read .ORA (.mem (.absX a))
  | .aslAbsX a => .modify .ASL (.absX a)
  | .oraLongX a => .read .ORA (.mem (.longX a))
  | .jsrAbs _ => .special .JSR 2
  | .andDirXInd o => .read .AND (.mem (.dirXInd o))
  | .jsl _ => .special .JSL 3
  | .andStkRel o => .read .AND (.mem (.stkRel o))
  | .bitDir o => .read .BIT (.mem (.dir o))
  | .andDir o => .read .AND (.mem (.dir o))
  | .rolDir o => .modify .ROL (.dir o)
  | .andDirIndLong o => .read .AND (.mem (.dirIndLong o))
  | .plp => .implied .PLP
  | .andImm v => .read .AND (.imm v)
  | .rolAcc => .acc .ROL
  | .pld => .implied .PLD
  | .bitAbs a => .read .BIT (.mem (.abs a))
  | .andAbs a => .read .AND (.mem (.abs a))
  | .rolAbs a => .modify .ROL (.abs a)
  | .andLong a => .read .AND (.mem (.long a))
  | .bmi r => .branch .BMI r
  | .andDirIndY o => .read .AND (.mem (.dirIndY o))
  | .andDirInd o => .read .AND (.mem (.dirInd o))
  | .andStkRelIndY o => .read .AND (.mem (.stkRelIndY o))
  | .bitDirX o => .read .BIT (.mem (.dirX o))
  | .andDirX o => .read .AND (.mem (.dirX o))
  | .rolDirX o => .modify .ROL (.dirX o)
  | .andDirIndLongY o => .read .AND (.mem (.dirIndLongY o))
  | .sec => .implied .SEC
  | .andAbsY a => .read .AND (.mem (.absY a))
  | .decAcc => .acc .DEC
  | .tsc => .implied .TSC
  | .bitAbsX a => .read .BIT (.mem (.absX a))
  | .andAbsX a => .read .AND (.mem (.absX a))
  | .rolAbsX a => .modify .ROL (.absX a)
  | .andLongX a => .read .AND (.mem (.longX a))
  | .rti => .implied .RTI
  | .eorDirXInd o => .read .EOR (.mem (.dirXInd o))
  | .reserved42 _ => .special .RESERVED 1
  | .eorStkRel o => .read .EOR (.mem (.stkRel o))
  | .mvp _ _ => .special .MVP 2
  | .eorDir o => .read .EOR (.mem (.dir o))
  | .lsrDir o => .modify .LSR (.dir o)
  | .eorDirIndLong o => .read .EOR (.mem (.dirIndLong o))
  | .pha => .implied .PHA
  | .eorImm v => .read .EOR (.imm v)
  | .lsrAcc => .acc .LSR
  | .phk => .implied .PHK
  | .jmpAbs _ => .special .JMP 2
  | .eorAbs a => .read .EOR (.mem (.abs a))
  | .lsrAbs a => .modify .LSR (.abs a)
  | .eorLong a => .read .EOR (.mem (.long a))
  | .bvc r => .branch .BVC r
  | .eorDirIndY o => .read .EOR (.mem (.dirIndY o))
  | .eorDirInd o => .read .EOR (.mem (.dirInd o))
  | .eorStkRelIndY o => .read .EOR (.mem (.stkRelIndY o))
  | .mvn _ _ => .special .MVN 2
  | .eorDirX o => .read .EOR (.mem (.dirX o))
  | .lsrDirX o => .modify .LSR (.dirX o)
  | .eorDirIndLongY o => .read .EOR (.mem (.dirIndLongY o))
  | .cli => .implied .CLI
  | .eorAbsY a => .read .EOR (.mem (.absY a))
  | .phy => .implied .PHY
  | .tcd => .implied .TCD
  | .jmpLong _ => .special .JMP 3
  | .eorAbsX a => .read .EOR (.mem (.absX a))
  | .lsrAbsX a => .modify .LSR (.absX a)
  | .eorLongX a => .read .EOR (.mem (.longX a))
  | .rts => .implied .RTS
  | .adcDirXInd o => .read .ADC (.mem (.dirXInd o))
  | .per _ => .special .PER 2
  | .adcStkRel o => .read .ADC (.mem (.stkRel o))
  | .stzDir o => .write .STZ (.dir o)
  | .adcDir o => .read .ADC (.mem (.dir o))
  | .rorDir o => .modify .ROR (.dir o)
  | .adcDirIndLong o => .read .ADC (.mem (.dirIndLong o))
  | .pla => .implied .PLA
  | .adcImm v => .read .ADC (.imm v)
  | .rorAcc => .acc .ROR
  | .rtl => .implied .RTL
  | .jmpAbsInd _ => .special .JMP 2
  | .adcAbs a => .read .ADC (.mem (.abs a))
  | .rorAbs a => .modify .ROR (.abs a)
  | .adcLong a => .read .ADC (.mem (.long a))
  | .bvs r => .branch .BVS r
  | .adcDirIndY o => .read .ADC (.mem (.dirIndY o))
  | .adcDirInd o => .read .ADC (.mem (.dirInd o))
  | .adcStkRelIndY o => .read .ADC (.mem (.stkRelIndY o))
  | .stzDirX o => .write .STZ (.dirX o)
  | .adcDirX o => .read .ADC (.mem (.dirX o))
  | .rorDirX o => .modify .ROR (.dirX o)
  | .adcDirIndLongY o => .read .ADC (.mem (.dirIndLongY o))
  | .sei => .implied .SEI
  | .adcAbsY a => .read .ADC (.mem (.absY a))
  | .ply => .implied .PLY
  | .tdc => .implied .TDC
  | .jmpAbsXInd _ => .special .JMP 2
  | .adcAbsX a => .read .ADC (.mem (.absX a))
  | .rorAbsX a => .modify .ROR (.absX a)
  | .adcLongX a => .read .ADC (.mem (.longX a))
  | .bra r => .branch .BRA r
  | .staDirXInd o => .write .STA (.dirXInd o)
  | .brl _ => .special .BRL 2
  | .staStkRel o => .write .STA (.stkRel o)
  | .styDir o => .write .STY (.dir o)
  | .staDir o => .write .STA (.dir o)
  | .stxDir o => .write .STX (.dir o)
  | .staDirIndLong o => .write .STA (.dirIndLong o)
  | .dey => .implied .DEY
  | .bitImm v => .read .BIT (.imm v)
  | .txa => .implied .TXA
  | .phb => .implied .PHB
  | .styAbs a => .write .STY (.abs a)
  | .staAbs a => .write .STA (.abs a)
  | .stxAbs a => .write .STX (.abs a)
  | .staLong a => .write .STA (.long a)
  | .bcc r => .branch .BCC r
  | .staDirIndY o => .write .STA (.dirIndY o)
  | .staDirInd o => .write .STA (.dirInd o)
  | .staStkRelIndY o => .write .STA (.stkRelIndY o)
  | .styDirX o => .write .STY (.dirX o)
  | .staDirX o => .write .STA (.dirX o)
  | .stxDirY o => .write .STX (.dirY o)
  | .staDirIndLongY o => .write .STA (.dirIndLongY o)
  | .tya => .implied .TYA
  | .staAbsY a => .write .STA (.absY a)
  | .txs => .implied .TXS
  | .txy => .implied .TXY
  | .stzAbs a => .write .STZ (.abs a)
  | .staAbsX a => .write .STA (.absX a)
  | .stzAbsX a => .write .STZ (.absX a)
  | .staLongX a => .write .STA (.longX a)
  | .ldyImm v => .read .LDY (.imm v)
  | .ldaDirXInd o => .read .LDA (.mem (.dirXInd o))
  | .ldxImm v => .read .LDX (.imm v)
  | .ldaStkRel o => .read .LDA (.mem (.stkRel o))
  | .ldyDir o => .read .LDY (.mem (.dir o))
  | .ldaDir o => .read .LDA (.mem (.dir o))
  | .ldxDir o => .read .LDX (.mem (.dir o))
  | .ldaDirIndLong o => .read .LDA (.mem (.dirIndLong o))
  | .tay => .implied .TAY
  | .ldaImm v => .read .LDA (.imm v)
  | .tax => .implied .TAX
  | .plb => .implied .PLB
  | .ldyAbs a => .read .LDY (.mem (.abs a))
  | .ldaAbs a => .read .LDA (.mem (.abs a))
  | .ldxAbs a => .read .LDX (.mem (.abs a))
  | .ldaLong a => .read .LDA (.mem (.long a))
  | .bcs r => .branch .BCS r
  | .ldaDirIndY o => .read .LDA (.mem (.dirIndY o))
  | .ldaDirInd o => .read .LDA (.mem (.dirInd o))
  | .ldaStkRelIndY o => .read .LDA (.mem (.stkRelIndY o))
  | .ldyDirX o => .read .LDY (.mem (.dirX o))
  | .ldaDirX o => .read .LDA (.mem (.dirX o))
  | .ldxDirY o => .read .LDX (.mem (.dirY o))
  | .ldaDirIndLongY o => .read .LDA (.mem (.dirIndLongY o))
  | .clv => .implied .CLV
  | .ldaAbsY a => .read .LDA (.mem (.absY a))
  | .tsx => .implied .TSX
  | .tyx => .implied .TYX
  | .ldyAbsX a => .read .LDY (.mem (.absX a))
  | .ldaAbsX a => .read .LDA (.mem (.absX a))
  | .ldxAbsY a => .read .LDX (.mem (.absY a))
  | .ldaLongX a => .read .LDA (.mem (.longX a))
  | .cpyImm v => .read .CPY (.imm v)
  | .cmpDirXInd o => .read .CMP (.mem (.dirXInd o))
  | .rep _ => .special .REP 1
  | .cmpStkRel o => .read .CMP (.mem (.stkRel o))
  | .cpyDir o => .read .CPY (.mem (.dir o))
  | .cmpDir o => .read .CMP (.mem (.dir o))
  | .decDir o => .modify .DEC (.dir o)
  | .cmpDirIndLong o => .read .CMP (.mem (.dirIndLong o))
  | .iny => .implied .INY
  | .cmpImm v => .read .CMP (.imm v)
  | .dex => .implied .DEX
  | .wai => .implied .WAI
  | .cpyAbs a => .read .CPY (.mem (.abs a))
  | .cmpAbs a => .read .CMP (.mem (.abs a))
  | .decAbs a => .modify .DEC (.abs a)
  | .cmpLong a => .read .CMP (.mem (.long a))
  | .bne r => .branch .BNE r
  | .cmpDirIndY o => .read .CMP (.mem (.dirIndY o))
  | .cmpDirInd o => .read .CMP (.mem (.dirInd o))
  | .cmpStkRelIndY o => .read .CMP (.mem (.stkRelIndY o))
  | .pei _ => .special .PEI 1
  | .cmpDirX o => .read .CMP (.mem (.dirX o))
  | .decDirX o => .modify .DEC (.dirX o)
  | .cmpDirIndLongY o => .read .CMP (.mem (.dirIndLongY o))
  | .cld => .implied .CLD
  | .cmpAbsY a => .read .CMP (.mem (.absY a))
  | .phx => .implied .PHX
  | .stp => .implied .STP
  | .jml _ => .special .JML 2
  | .cmpAbsX a => .read .CMP (.mem (.absX a))
  | .decAbsX a => .modify .DEC (.absX a)
  | .cmpLongX a => .read .CMP (.mem (.longX a))
  | .cpxImm v => .read .CPX (.imm v)
  | .sbcDirXInd o => .read .SBC (.mem (.dirXInd o))
  | .sep _ => .special .SEP 1
  | .sbcStkRel o => .read .SBC (.mem (.stkRel o))
  | .cpxDir o => .read .CPX (.mem (.dir o))
  | .sbcDir o => .read .SBC (.mem (.dir o))
  | .incDir o => .modify .INC (.dir o)
  | .sbcDirIndLong o => .read .SBC (.mem (.dirIndLong o))
  | .inx => .implied .INX
  | .sbcImm v => .read .SBC (.imm v)
  | .nop => .implied .NOP
  | .xba => .implied .XBA
  | .cpxAbs a => .read .CPX (.mem (.abs a))
  | .sbcAbs a => .read .SBC (.mem (.abs a))
  | .incAbs a => .modify .INC (.abs a)
  | .sbcLong a => .read .SBC (.mem (.long a))
  | .beq r => .branch .BEQ r
  | .sbcDirIndY o => .read .SBC (.mem (.dirIndY o))
  | .sbcDirInd o => .read .SBC (.mem (.dirInd o))
  | .sbcStkRelIndY o => .read .SBC (.mem (.stkRelIndY o))
  | .pea _ => .special .PEA 2
  | .sbcDirX o => .read .SBC (.mem (.dirX o))
  | .incDirX o => .modify .INC (.dirX o)
  | .sbcDirIndLongY o => .read .SBC (.mem (.dirIndLongY o))
  | .sed => .implied .SED
  | .sbcAbsY a => .read .SBC (.mem (.absY a))
  | .plx => .implied .PLX
  | .xce => .implied .XCE
  | .jsrAbsXInd _ => .special .JSR 2
  | .sbcAbsX a => .read .SBC (.mem (.absX a))
  | .incAbsX a => .modify .INC (.absX a)
  | .sbcLongX a => .read .SBC (.mem (.longX a))

/-- The mnemonic an instruction is printed with (Table 8). -/
def Instr.mnemonic (i : Instr) : Mnemonic :=
  match i.view with
  | .read op _ => op
  | .write op _ => op
  | .modify op _ => op
  | .acc op => op
  | .branch op _ => op
  | .implied op => op
  | .special op _ => op

/-- Operand bytes of an immediate (R93). -/
def Imm.bytes : Imm → Nat
  | .byte _ => 1
  | .word _ => 2

/-- Operand bytes of a memory mode (R95). -/
def MemMode.bytes : MemMode → Nat
  | .dir _ => 1
  | .dirX _ => 1
  | .dirY _ => 1
  | .dirInd _ => 1
  | .dirXInd _ => 1
  | .dirIndY _ => 1
  | .dirIndLong _ => 1
  | .dirIndLongY _ => 1
  | .abs _ => 2
  | .absX _ => 2
  | .absY _ => 2
  | .long _ => 3
  | .longX _ => 3
  | .stkRel _ => 1
  | .stkRelIndY _ => 1

/-- Operand bytes of a source operand. -/
def Src.bytes : Src → Nat
  | .imm v => v.bytes
  | .mem m => m.bytes

/-- The length of an instruction in bytes, opcode included (R95). -/
def Instr.length (i : Instr) : Nat :=
  match i.view with
  | .read _ src => 1 + src.bytes
  | .write _ dst => 1 + dst.bytes
  | .modify _ dst => 1 + dst.bytes
  | .acc _ => 1
  | .branch _ _ => 2
  | .implied _ => 1
  | .special _ n => 1 + n

end Sys2Proof
end

