-- ==== Sys2Proof/WellFormed.lean ====
section
/-! DEFINITION. Which instruction terms are instructions of the machine in a given width state: an immediate has the
width its selector says (R93). Every other operand is of its exact width by its type. -/

namespace Sys2Proof

/-- An immediate has one byte exactly when its selector is true (R93). -/
def Imm.fits (sel : Bool) : Imm → Bool
  | .byte _ => sel
  | .word _ => !sel

/-- The selector of an immediate: `x8` for LDX, LDY, CPX and CPY, `m8` for the others (the table of R93). -/
def Mnemonic.usesIndexWidth (op : Mnemonic) : Bool :=
  op == .LDX || op == .LDY || op == .CPX || op == .CPY

/-- The instruction can be decoded when the width selectors are `m8` and `x8` (R93, R96). -/
def Instr.wf (m8 x8 : Bool) (i : Instr) : Bool :=
  match i.view with
  | .read op (.imm v) => v.fits (if op.usesIndexWidth then x8 else m8)
  | .read _ (.mem _) => true
  | .write _ _ => true
  | .modify _ _ => true
  | .acc _ => true
  | .branch _ _ => true
  | .implied _ => true
  | .special _ _ => true

end Sys2Proof
end

