-- ==== Sys2Proof/Decode.lean ====
section
/-! DEFINITION. The decoder, total on any list of bytes (R90 to R99), the encoder written from the same matrix (R97),
and the reading of one opcode-table word. -/

namespace Sys2Proof

/-- Why the decoder refuses a list of bytes. The opcode map is total (R97), so only a list that ends too early is
refused. -/
inductive DecodeError where
  /-- The list ends before the instruction does. -/
  | truncated
deriving DecidableEq, Repr

/-- The operand layout of an opcode (R91) and the instruction it makes of its operand. -/
inductive Row where
  /-- `F1`: no operand byte. -/
  | none (i : Instr)
  /-- `F2`: one operand byte. -/
  | byte (f : Byte → Instr)
  /-- `F3`: two operand bytes, low byte first (R92). -/
  | word (f : Word → Instr)
  /-- `F4`: three operand bytes, low byte first (R92). -/
  | addr (f : Addr → Instr)
  /-- `F3B`: destination bank, then source bank (R91, R137). -/
  | banks (f : Byte → Byte → Instr)
  /-- `F2` or `F3` as `m8` says (R93). -/
  | immM (f : Imm → Instr)
  /-- `F2` or `F3` as `x8` says (R93). -/
  | immX (f : Imm → Instr)

/-- Row 0 of the opcode matrix (R97). -/
def matrixRow0 : List Row :=
  [.byte .brk, .byte .oraDirXInd, .byte .cop, .byte .oraStkRel,
   .byte .tsbDir, .byte .oraDir, .byte .aslDir, .byte .oraDirIndLong,
   .none .php, .immM .oraImm, .none .aslAcc, .none .phd,
   .word .tsbAbs, .word .oraAbs, .word .aslAbs, .addr .oraLong]

/-- Row 1 of the opcode matrix (R97). -/
def matrixRow1 : List Row :=
  [.byte .bpl, .byte .oraDirIndY, .byte .oraDirInd, .byte .oraStkRelIndY,
   .byte .trbDir, .byte .oraDirX, .byte .aslDirX, .byte .oraDirIndLongY,
   .none .clc, .word .oraAbsY, .none .incAcc, .none .tcs,
   .word .trbAbs, .word .oraAbsX, .word .aslAbsX, .addr .oraLongX]

/-- Row 2 of the opcode matrix (R97). -/
def matrixRow2 : List Row :=
  [.word .jsrAbs, .byte .andDirXInd, .addr .jsl, .byte .andStkRel,
   .byte .bitDir, .byte .andDir, .byte .rolDir, .byte .andDirIndLong,
   .none .plp, .immM .andImm, .none .rolAcc, .none .pld,
   .word .bitAbs, .word .andAbs, .word .rolAbs, .addr .andLong]

/-- Row 3 of the opcode matrix (R97). -/
def matrixRow3 : List Row :=
  [.byte .bmi, .byte .andDirIndY, .byte .andDirInd, .byte .andStkRelIndY,
   .byte .bitDirX, .byte .andDirX, .byte .rolDirX, .byte .andDirIndLongY,
   .none .sec, .word .andAbsY, .none .decAcc, .none .tsc,
   .word .bitAbsX, .word .andAbsX, .word .rolAbsX, .addr .andLongX]

/-- Row 4 of the opcode matrix (R97). -/
def matrixRow4 : List Row :=
  [.none .rti, .byte .eorDirXInd, .byte .reserved42, .byte .eorStkRel,
   .banks .mvp, .byte .eorDir, .byte .lsrDir, .byte .eorDirIndLong,
   .none .pha, .immM .eorImm, .none .lsrAcc, .none .phk,
   .word .jmpAbs, .word .eorAbs, .word .lsrAbs, .addr .eorLong]

/-- Row 5 of the opcode matrix (R97). -/
def matrixRow5 : List Row :=
  [.byte .bvc, .byte .eorDirIndY, .byte .eorDirInd, .byte .eorStkRelIndY,
   .banks .mvn, .byte .eorDirX, .byte .lsrDirX, .byte .eorDirIndLongY,
   .none .cli, .word .eorAbsY, .none .phy, .none .tcd,
   .addr .jmpLong, .word .eorAbsX, .word .lsrAbsX, .addr .eorLongX]

/-- Row 6 of the opcode matrix (R97). -/
def matrixRow6 : List Row :=
  [.none .rts, .byte .adcDirXInd, .word .per, .byte .adcStkRel,
   .byte .stzDir, .byte .adcDir, .byte .rorDir, .byte .adcDirIndLong,
   .none .pla, .immM .adcImm, .none .rorAcc, .none .rtl,
   .word .jmpAbsInd, .word .adcAbs, .word .rorAbs, .addr .adcLong]

/-- Row 7 of the opcode matrix (R97). -/
def matrixRow7 : List Row :=
  [.byte .bvs, .byte .adcDirIndY, .byte .adcDirInd, .byte .adcStkRelIndY,
   .byte .stzDirX, .byte .adcDirX, .byte .rorDirX, .byte .adcDirIndLongY,
   .none .sei, .word .adcAbsY, .none .ply, .none .tdc,
   .word .jmpAbsXInd, .word .adcAbsX, .word .rorAbsX, .addr .adcLongX]

/-- Row 8 of the opcode matrix (R97). -/
def matrixRow8 : List Row :=
  [.byte .bra, .byte .staDirXInd, .word .brl, .byte .staStkRel,
   .byte .styDir, .byte .staDir, .byte .stxDir, .byte .staDirIndLong,
   .none .dey, .immM .bitImm, .none .txa, .none .phb,
   .word .styAbs, .word .staAbs, .word .stxAbs, .addr .staLong]

/-- Row 9 of the opcode matrix (R97). -/
def matrixRow9 : List Row :=
  [.byte .bcc, .byte .staDirIndY, .byte .staDirInd, .byte .staStkRelIndY,
   .byte .styDirX, .byte .staDirX, .byte .stxDirY, .byte .staDirIndLongY,
   .none .tya, .word .staAbsY, .none .txs, .none .txy,
   .word .stzAbs, .word .staAbsX, .word .stzAbsX, .addr .staLongX]

/-- Row A of the opcode matrix (R97). -/
def matrixRowA : List Row :=
  [.immX .ldyImm, .byte .ldaDirXInd, .immX .ldxImm, .byte .ldaStkRel,
   .byte .ldyDir, .byte .ldaDir, .byte .ldxDir, .byte .ldaDirIndLong,
   .none .tay, .immM .ldaImm, .none .tax, .none .plb,
   .word .ldyAbs, .word .ldaAbs, .word .ldxAbs, .addr .ldaLong]

/-- Row B of the opcode matrix (R97). -/
def matrixRowB : List Row :=
  [.byte .bcs, .byte .ldaDirIndY, .byte .ldaDirInd, .byte .ldaStkRelIndY,
   .byte .ldyDirX, .byte .ldaDirX, .byte .ldxDirY, .byte .ldaDirIndLongY,
   .none .clv, .word .ldaAbsY, .none .tsx, .none .tyx,
   .word .ldyAbsX, .word .ldaAbsX, .word .ldxAbsY, .addr .ldaLongX]

/-- Row C of the opcode matrix (R97). -/
def matrixRowC : List Row :=
  [.immX .cpyImm, .byte .cmpDirXInd, .byte .rep, .byte .cmpStkRel,
   .byte .cpyDir, .byte .cmpDir, .byte .decDir, .byte .cmpDirIndLong,
   .none .iny, .immM .cmpImm, .none .dex, .none .wai,
   .word .cpyAbs, .word .cmpAbs, .word .decAbs, .addr .cmpLong]

/-- Row D of the opcode matrix (R97). -/
def matrixRowD : List Row :=
  [.byte .bne, .byte .cmpDirIndY, .byte .cmpDirInd, .byte .cmpStkRelIndY,
   .byte .pei, .byte .cmpDirX, .byte .decDirX, .byte .cmpDirIndLongY,
   .none .cld, .word .cmpAbsY, .none .phx, .none .stp,
   .word .jml, .word .cmpAbsX, .word .decAbsX, .addr .cmpLongX]

/-- Row E of the opcode matrix (R97). -/
def matrixRowE : List Row :=
  [.immX .cpxImm, .byte .sbcDirXInd, .byte .sep, .byte .sbcStkRel,
   .byte .cpxDir, .byte .sbcDir, .byte .incDir, .byte .sbcDirIndLong,
   .none .inx, .immM .sbcImm, .none .nop, .none .xba,
   .word .cpxAbs, .word .sbcAbs, .word .incAbs, .addr .sbcLong]

/-- Row F of the opcode matrix (R97). -/
def matrixRowF : List Row :=
  [.byte .beq, .byte .sbcDirIndY, .byte .sbcDirInd, .byte .sbcStkRelIndY,
   .word .pea, .byte .sbcDirX, .byte .incDirX, .byte .sbcDirIndLongY,
   .none .sed, .word .sbcAbsY, .none .plx, .none .xce,
   .word .jsrAbsXInd, .word .sbcAbsX, .word .incAbsX, .addr .sbcLongX]

/-- The opcode matrix of R97: most significant digit, then least significant digit. -/
def opcodeMatrix : List (List Row) :=
  [matrixRow0, matrixRow1, matrixRow2, matrixRow3,
   matrixRow4, matrixRow5, matrixRow6, matrixRow7,
   matrixRow8, matrixRow9, matrixRowA, matrixRowB,
   matrixRowC, matrixRowD, matrixRowE, matrixRowF]

/-- The cell of an opcode byte (R90: all 8 bits are one field). -/
def rowOf (op : Byte) : Row :=
  (((opcodeMatrix[op.toNat / 16]?).getD [])[op.toNat % 16]?).getD (.byte .reserved42)

/-- One operand byte. -/
def takeByte (f : Byte → Instr) : List Byte → Except DecodeError (Instr × List Byte)
  | b :: rest => .ok (f b, rest)
  | [] => .error .truncated

/-- Two operand bytes, the low byte first (R92). -/
def takeWord (f : Word → Instr) : List Byte → Except DecodeError (Instr × List Byte)
  | lo :: hi :: rest => .ok (f (mkWord hi lo), rest)
  | _ => .error .truncated

/-- Three operand bytes: low, high, bank (R92). -/
def takeAddr (f : Addr → Instr) : List Byte → Except DecodeError (Instr × List Byte)
  | lo :: hi :: bank :: rest => .ok (f (mkAddr bank (mkWord hi lo)), rest)
  | _ => .error .truncated

/-- The two bank bytes of a block move: destination first (R91). -/
def takeBanks (f : Byte → Byte → Instr) : List Byte → Except DecodeError (Instr × List Byte)
  | dst :: src :: rest => .ok (f dst src, rest)
  | _ => .error .truncated

/-- An immediate of the selected width (R93). -/
def takeImm (sel : Bool) (f : Imm → Instr) (bytes : List Byte) : Except DecodeError (Instr × List Byte) :=
  if sel then takeByte (fun b => f (.byte b)) bytes else takeWord (fun v => f (.word v)) bytes

/-- Decodes the instruction at the head of `bytes` when the width selectors are `m8` and `x8`, and answers it with the
bytes that follow it (R90 to R96). -/
def decode (m8 x8 : Bool) : List Byte → Except DecodeError (Instr × List Byte)
  | [] => .error .truncated
  | op :: rest =>
    match rowOf op with
    | .none i => .ok (i, rest)
    | .byte f => takeByte f rest
    | .word f => takeWord f rest
    | .addr f => takeAddr f rest
    | .banks f => takeBanks f rest
    | .immM f => takeImm m8 f rest
    | .immX f => takeImm x8 f rest

/-- A word operand as instruction bytes (R92). -/
def wordBytes (v : Word) : List Byte := [loByte v, hiByte v]

/-- A 24-bit operand as instruction bytes (R92). -/
def addrBytes (a : Addr) : List Byte := [loByte (addrOff a), hiByte (addrOff a), addrBank a]

/-- An immediate as instruction bytes (R92, R93). -/
def Imm.encode : Imm → List Byte
  | .byte v => [v]
  | .word v => wordBytes v

/-- The bytes of an instruction, lowest address first (R91, R97). -/
def encode : Instr → List Byte
  | .brk sig => [0x00, sig]
  | .oraDirXInd o => [0x01, o]
  | .cop sig => [0x02, sig]
  | .oraStkRel o => [0x03, o]
  | .tsbDir o => [0x04, o]
  | .oraDir o => [0x05, o]
  | .aslDir o => [0x06, o]
  | .oraDirIndLong o => [0x07, o]
  | .php => [0x08]
  | .oraImm v => 0x09 :: v.encode
  | .aslAcc => [0x0A]
  | .phd => [0x0B]
  | .tsbAbs a => 0x0C :: wordBytes a
  | .oraAbs a => 0x0D :: wordBytes a
  | .aslAbs a => 0x0E :: wordBytes a
  | .oraLong a => 0x0F :: addrBytes a
  | .bpl r => [0x10, r]
  | .oraDirIndY o => [0x11, o]
  | .oraDirInd o => [0x12, o]
  | .oraStkRelIndY o => [0x13, o]
  | .trbDir o => [0x14, o]
  | .oraDirX o => [0x15, o]
  | .aslDirX o => [0x16, o]
  | .oraDirIndLongY o => [0x17, o]
  | .clc => [0x18]
  | .oraAbsY a => 0x19 :: wordBytes a
  | .incAcc => [0x1A]
  | .tcs => [0x1B]
  | .trbAbs a => 0x1C :: wordBytes a
  | .oraAbsX a => 0x1D :: wordBytes a
  | .aslAbsX a => 0x1E :: wordBytes a
  | .oraLongX a => 0x1F :: addrBytes a
  | .jsrAbs a => 0x20 :: wordBytes a
  | .andDirXInd o => [0x21, o]
  | .jsl a => 0x22 :: addrBytes a
  | .andStkRel o => [0x23, o]
  | .bitDir o => [0x24, o]
  | .andDir o => [0x25, o]
  | .rolDir o => [0x26, o]
  | .andDirIndLong o => [0x27, o]
  | .plp => [0x28]
  | .andImm v => 0x29 :: v.encode
  | .rolAcc => [0x2A]
  | .pld => [0x2B]
  | .bitAbs a => 0x2C :: wordBytes a
  | .andAbs a => 0x2D :: wordBytes a
  | .rolAbs a => 0x2E :: wordBytes a
  | .andLong a => 0x2F :: addrBytes a
  | .bmi r => [0x30, r]
  | .andDirIndY o => [0x31, o]
  | .andDirInd o => [0x32, o]
  | .andStkRelIndY o => [0x33, o]
  | .bitDirX o => [0x34, o]
  | .andDirX o => [0x35, o]
  | .rolDirX o => [0x36, o]
  | .andDirIndLongY o => [0x37, o]
  | .sec => [0x38]
  | .andAbsY a => 0x39 :: wordBytes a
  | .decAcc => [0x3A]
  | .tsc => [0x3B]
  | .bitAbsX a => 0x3C :: wordBytes a
  | .andAbsX a => 0x3D :: wordBytes a
  | .rolAbsX a => 0x3E :: wordBytes a
  | .andLongX a => 0x3F :: addrBytes a
  | .rti => [0x40]
  | .eorDirXInd o => [0x41, o]
  | .reserved42 op8 => [0x42, op8]
  | .eorStkRel o => [0x43, o]
  | .mvp dst src => [0x44, dst, src]
  | .eorDir o => [0x45, o]
  | .lsrDir o => [0x46, o]
  | .eorDirIndLong o => [0x47, o]
  | .pha => [0x48]
  | .eorImm v => 0x49 :: v.encode
  | .lsrAcc => [0x4A]
  | .phk => [0x4B]
  | .jmpAbs a => 0x4C :: wordBytes a
  | .eorAbs a => 0x4D :: wordBytes a
  | .lsrAbs a => 0x4E :: wordBytes a
  | .eorLong a => 0x4F :: addrBytes a
  | .bvc r => [0x50, r]
  | .eorDirIndY o => [0x51, o]
  | .eorDirInd o => [0x52, o]
  | .eorStkRelIndY o => [0x53, o]
  | .mvn dst src => [0x54, dst, src]
  | .eorDirX o => [0x55, o]
  | .lsrDirX o => [0x56, o]
  | .eorDirIndLongY o => [0x57, o]
  | .cli => [0x58]
  | .eorAbsY a => 0x59 :: wordBytes a
  | .phy => [0x5A]
  | .tcd => [0x5B]
  | .jmpLong a => 0x5C :: addrBytes a
  | .eorAbsX a => 0x5D :: wordBytes a
  | .lsrAbsX a => 0x5E :: wordBytes a
  | .eorLongX a => 0x5F :: addrBytes a
  | .rts => [0x60]
  | .adcDirXInd o => [0x61, o]
  | .per r => 0x62 :: wordBytes r
  | .adcStkRel o => [0x63, o]
  | .stzDir o => [0x64, o]
  | .adcDir o => [0x65, o]
  | .rorDir o => [0x66, o]
  | .adcDirIndLong o => [0x67, o]
  | .pla => [0x68]
  | .adcImm v => 0x69 :: v.encode
  | .rorAcc => [0x6A]
  | .rtl => [0x6B]
  | .jmpAbsInd a => 0x6C :: wordBytes a
  | .adcAbs a => 0x6D :: wordBytes a
  | .rorAbs a => 0x6E :: wordBytes a
  | .adcLong a => 0x6F :: addrBytes a
  | .bvs r => [0x70, r]
  | .adcDirIndY o => [0x71, o]
  | .adcDirInd o => [0x72, o]
  | .adcStkRelIndY o => [0x73, o]
  | .stzDirX o => [0x74, o]
  | .adcDirX o => [0x75, o]
  | .rorDirX o => [0x76, o]
  | .adcDirIndLongY o => [0x77, o]
  | .sei => [0x78]
  | .adcAbsY a => 0x79 :: wordBytes a
  | .ply => [0x7A]
  | .tdc => [0x7B]
  | .jmpAbsXInd a => 0x7C :: wordBytes a
  | .adcAbsX a => 0x7D :: wordBytes a
  | .rorAbsX a => 0x7E :: wordBytes a
  | .adcLongX a => 0x7F :: addrBytes a
  | .bra r => [0x80, r]
  | .staDirXInd o => [0x81, o]
  | .brl r => 0x82 :: wordBytes r
  | .staStkRel o => [0x83, o]
  | .styDir o => [0x84, o]
  | .staDir o => [0x85, o]
  | .stxDir o => [0x86, o]
  | .staDirIndLong o => [0x87, o]
  | .dey => [0x88]
  | .bitImm v => 0x89 :: v.encode
  | .txa => [0x8A]
  | .phb => [0x8B]
  | .styAbs a => 0x8C :: wordBytes a
  | .staAbs a => 0x8D :: wordBytes a
  | .stxAbs a => 0x8E :: wordBytes a
  | .staLong a => 0x8F :: addrBytes a
  | .bcc r => [0x90, r]
  | .staDirIndY o => [0x91, o]
  | .staDirInd o => [0x92, o]
  | .staStkRelIndY o => [0x93, o]
  | .styDirX o => [0x94, o]
  | .staDirX o => [0x95, o]
  | .stxDirY o => [0x96, o]
  | .staDirIndLongY o => [0x97, o]
  | .tya => [0x98]
  | .staAbsY a => 0x99 :: wordBytes a
  | .txs => [0x9A]
  | .txy => [0x9B]
  | .stzAbs a => 0x9C :: wordBytes a
  | .staAbsX a => 0x9D :: wordBytes a
  | .stzAbsX a => 0x9E :: wordBytes a
  | .staLongX a => 0x9F :: addrBytes a
  | .ldyImm v => 0xA0 :: v.encode
  | .ldaDirXInd o => [0xA1, o]
  | .ldxImm v => 0xA2 :: v.encode
  | .ldaStkRel o => [0xA3, o]
  | .ldyDir o => [0xA4, o]
  | .ldaDir o => [0xA5, o]
  | .ldxDir o => [0xA6, o]
  | .ldaDirIndLong o => [0xA7, o]
  | .tay => [0xA8]
  | .ldaImm v => 0xA9 :: v.encode
  | .tax => [0xAA]
  | .plb => [0xAB]
  | .ldyAbs a => 0xAC :: wordBytes a
  | .ldaAbs a => 0xAD :: wordBytes a
  | .ldxAbs a => 0xAE :: wordBytes a
  | .ldaLong a => 0xAF :: addrBytes a
  | .bcs r => [0xB0, r]
  | .ldaDirIndY o => [0xB1, o]
  | .ldaDirInd o => [0xB2, o]
  | .ldaStkRelIndY o => [0xB3, o]
  | .ldyDirX o => [0xB4, o]
  | .ldaDirX o => [0xB5, o]
  | .ldxDirY o => [0xB6, o]
  | .ldaDirIndLongY o => [0xB7, o]
  | .clv => [0xB8]
  | .ldaAbsY a => 0xB9 :: wordBytes a
  | .tsx => [0xBA]
  | .tyx => [0xBB]
  | .ldyAbsX a => 0xBC :: wordBytes a
  | .ldaAbsX a => 0xBD :: wordBytes a
  | .ldxAbsY a => 0xBE :: wordBytes a
  | .ldaLongX a => 0xBF :: addrBytes a
  | .cpyImm v => 0xC0 :: v.encode
  | .cmpDirXInd o => [0xC1, o]
  | .rep mask => [0xC2, mask]
  | .cmpStkRel o => [0xC3, o]
  | .cpyDir o => [0xC4, o]
  | .cmpDir o => [0xC5, o]
  | .decDir o => [0xC6, o]
  | .cmpDirIndLong o => [0xC7, o]
  | .iny => [0xC8]
  | .cmpImm v => 0xC9 :: v.encode
  | .dex => [0xCA]
  | .wai => [0xCB]
  | .cpyAbs a => 0xCC :: wordBytes a
  | .cmpAbs a => 0xCD :: wordBytes a
  | .decAbs a => 0xCE :: wordBytes a
  | .cmpLong a => 0xCF :: addrBytes a
  | .bne r => [0xD0, r]
  | .cmpDirIndY o => [0xD1, o]
  | .cmpDirInd o => [0xD2, o]
  | .cmpStkRelIndY o => [0xD3, o]
  | .pei o => [0xD4, o]
  | .cmpDirX o => [0xD5, o]
  | .decDirX o => [0xD6, o]
  | .cmpDirIndLongY o => [0xD7, o]
  | .cld => [0xD8]
  | .cmpAbsY a => 0xD9 :: wordBytes a
  | .phx => [0xDA]
  | .stp => [0xDB]
  | .jml a => 0xDC :: wordBytes a
  | .cmpAbsX a => 0xDD :: wordBytes a
  | .decAbsX a => 0xDE :: wordBytes a
  | .cmpLongX a => 0xDF :: addrBytes a
  | .cpxImm v => 0xE0 :: v.encode
  | .sbcDirXInd o => [0xE1, o]
  | .sep mask => [0xE2, mask]
  | .sbcStkRel o => [0xE3, o]
  | .cpxDir o => [0xE4, o]
  | .sbcDir o => [0xE5, o]
  | .incDir o => [0xE6, o]
  | .sbcDirIndLong o => [0xE7, o]
  | .inx => [0xE8]
  | .sbcImm v => 0xE9 :: v.encode
  | .nop => [0xEA]
  | .xba => [0xEB]
  | .cpxAbs a => 0xEC :: wordBytes a
  | .sbcAbs a => 0xED :: wordBytes a
  | .incAbs a => 0xEE :: wordBytes a
  | .sbcLong a => 0xEF :: addrBytes a
  | .beq r => [0xF0, r]
  | .sbcDirIndY o => [0xF1, o]
  | .sbcDirInd o => [0xF2, o]
  | .sbcStkRelIndY o => [0xF3, o]
  | .pea v => 0xF4 :: wordBytes v
  | .sbcDirX o => [0xF5, o]
  | .incDirX o => [0xF6, o]
  | .sbcDirIndLongY o => [0xF7, o]
  | .sed => [0xF8]
  | .sbcAbsY a => 0xF9 :: wordBytes a
  | .plx => [0xFA]
  | .xce => [0xFB]
  | .jsrAbsXInd a => 0xFC :: wordBytes a
  | .sbcAbsX a => 0xFD :: wordBytes a
  | .incAbsX a => 0xFE :: wordBytes a
  | .sbcLongX a => 0xFF :: addrBytes a

/-- The four bytes of an instruction word numbered as spec/opcode_table.json numbers it: bit 0 is bit 0 of the opcode
byte, the next byte is bits 15:8, and so on; bits from `nbits` up are 0. -/
def tableBytes (nbits w : Nat) : List Byte :=
  let v := w % 2 ^ nbits
  [BitVec.ofNat 8 v, BitVec.ofNat 8 (v / 2 ^ 8), BitVec.ofNat 8 (v / 2 ^ 16), BitVec.ofNat 8 (v / 2 ^ 24)]

/-- The instruction the decoder reads from a table word, with the width selectors of the reset state, both true
(R52; log 8). -/
def decodeTableWord (nbits w : Nat) : Option Instr :=
  match decode true true (tableBytes nbits w) with
  | .ok (i, _) => some i
  | .error _ => none

end Sys2Proof
end

