-- ==== Sys2Proof/Machine/State.lean ====
section
/-! DEFINITION. The state of the machine (R20, R31, R33, R46 to R51), the inputs of its steps (R14, R343), the reasons a
step can stop, and the machine right after reset (R52). -/

namespace Sys2Proof.Machine

open Sys2Proof

/-- Memory as plain data: (physical address, byte) pairs with addresses strictly rising and no entry equal to what an
unlisted address reads as (R60; log 1). -/
abbrev Memory := List Host.Cell

/-- What a byte that nothing has written reads as: DESIGN CHOICE 00, the spec leaves it to the platform (R78; log 1). -/
def unlistedByte : Byte := 0

/-- The canonical form of a memory: strictly rising addresses below 2^24, no entry that reads as an unlisted byte. -/
abbrev Memory.wf (m : Memory) : Prop :=
  m.Pairwise (fun a b => a.1 < b.1) ∧ ∀ c ∈ m, c.2 ≠ unlistedByte ∧ c.1 < 2 ^ 24

/-- The Processor Status Register P, one field per bit of R31, most significant first. P has no reserved bit: in
Emulation mode bits 5 and 4 are M and X, which are 1 (R34, R35; log 18). -/
structure Status where
  /-- Bit 7, Negative (R36). -/
  n : Bool
  /-- Bit 6, Overflow (R37). -/
  v : Bool
  /-- Bit 5, Memory/Accumulator select: 1 is 8 bits (R38). -/
  m : Bool
  /-- Bit 4, Index select: 1 is 8 bits (R39). -/
  x : Bool
  /-- Bit 3, Decimal mode (R40). -/
  d : Bool
  /-- Bit 2, IRQ Disable (R41). -/
  i : Bool
  /-- Bit 1, Zero (R42). -/
  z : Bool
  /-- Bit 0, Carry (R43). -/
  c : Bool
deriving DecidableEq, Repr

/-- What the environment does at one step boundary (R14, R49, R343): levels and edges of the inputs, and what another bus
master has written since the last step (R80). -/
structure StepInput where
  /-- RES is pulsed low and released (R350; log 17). -/
  res : Bool
  /-- ABORT is active in this step, from its boundary on, in time to protect every register; G65SC816 only (R314, R317;
  log 10). -/
  abort : Bool
  /-- How many ABORTs of this step come behind the last abortable cycle of BRK, COP, RTI or an interrupt sequence, each in
  what the one before it left to run: too late to protect P, PBR and DBR; G65SC816 only (R314; log 24). -/
  lateAborts : Nat
  /-- A falling edge on NMI (R313). -/
  nmiEdge : Bool
  /-- IRQ is low at the boundary (R312). -/
  irqLow : Bool
  /-- A falling edge on SO; G65SC802 only (R340). -/
  soEdge : Bool
  /-- An external driver holds RDY high against WAI (R332, D27). -/
  rdyForcedHigh : Bool
  /-- Bytes another bus master has written, in bus order (R80, R85). -/
  busWrites : List (Addr × Byte)
deriving DecidableEq, Repr

/-- The silent environment: no input active, no other bus master. -/
def StepInput.quiet : StepInput :=
  { res := false, abort := false, lateAborts := 0, nmiEdge := false, irqLow := false, soEdge := false,
    rdyForcedHigh := false, busWrites := [] }

/-- The machine: every register and latch the spec gives it (R20, R46 to R48), its memory (R51), and the model's own
fields `config`, `inputs`, `freeCount`, `lastM` and `lastX` (log 3 to log 6, log 28). -/
structure State where
  /-- C, the 16-bit accumulator: B is `c[15:8]`, A is `c[7:0]` (R21). -/
  c : Word
  /-- X (R22). -/
  x : Word
  /-- Y (R22). -/
  y : Word
  /-- S, the stack pointer: the next free byte (R23). -/
  sp : Word
  /-- D, the Direct Register (R24). -/
  d : Word
  /-- PC (R27). -/
  pc : Word
  /-- DBR (R25). -/
  dbr : Byte
  /-- PBR (R26). -/
  pbr : Byte
  /-- P (R31). -/
  p : Status
  /-- E, the Emulation flag (R33). -/
  e : Bool
  /-- Set by WAI (R46). -/
  waiting : Bool
  /-- Set by STP (R46). -/
  stopped : Bool
  /-- The NMI edge latch (R47). -/
  nmiPending : Bool
  /-- The ABORT latch; G65SC816 only (R48). -/
  abortPending : Bool
  /-- Memory (R51, R60). -/
  mem : Memory
  /-- The open parameters of R7 and the package; no step changes them (log 4, log 5, log 26). -/
  config : Config
  /-- The inputs of the steps to come, the next step's first; past its end the environment is silent (log 6). -/
  inputs : List StepInput
  /-- How many reset events, changes of M or X and late ABORTs have drawn free values (log 3, log 24, log 28). -/
  freeCount : Nat
  /-- P.M as the last step found it: with `lastX` it tells whether M or X has just changed (R45; log 28). -/
  lastM : Bool
  /-- P.X as the last step found it (R45; log 28). -/
  lastX : Bool
deriving DecidableEq, Repr

/-- Why a step stops with a fault. The processor itself raises none (R79, R310). -/
inductive Fault where
  /-- Raised by the fetch of `step` when the decoder refuses the fetched bytes. Safe: the fetch hands over four bytes and
  no instruction is longer, so no state raises it. -/
  | undecodable (why : DecodeError)
deriving DecidableEq, Repr

/-- Why an instruction is refused. -/
inductive Refusal where
  /-- Raised by an arm of `exec` for an instruction that has no meaning yet. Safe: the machine stops. No arm raises it. -/
  | notModelled (mnemonic : String)
deriving DecidableEq, Repr

/-- What a step or a meaning answers. -/
abbrev Result := Host.Outcome State Fault Refusal

/-- The machine right after the reset sequence (R52). DESIGN CHOICE for what R52 marks "not initialised": C, XL, YL, SL,
N, V, Z and C are 0 (log 2). PC is the word at 00FFFC, which nothing has written (log 7). -/
def State.reset : State where
  c := 0x0000
  x := 0x0000
  y := 0x0000
  sp := 0x0100
  d := 0x0000
  pc := 0x0000
  dbr := 0x00
  pbr := 0x00
  p := { n := false, v := false, m := true, x := true, d := false, i := true, z := false, c := false }
  e := true
  waiting := false
  stopped := false
  nmiPending := false
  abortPending := false
  mem := []
  config := { variant := .g65sc816, abortWrites := false, pins44 := false }
  inputs := []
  freeCount := 0
  lastM := true
  lastX := true

end Sys2Proof.Machine
end

