-- ==== Sys2Proof/Machine/Flags.lean ====
section
/-! DEFINITION. Every flag computation of the spec: N and Z (R10), binary and decimal arithmetic (R160 to R163), compare
(R167), bit test (R168), the shifts and other read-modify-write functions (R181 to R188), and P as a byte (R31). -/

namespace Sys2Proof.Machine

open Sys2Proof

/-- `setNZ(v, w)` (R10): N is the top bit of the result, Z says the result is 0. -/
def Status.setNZ {w : Nat} (p : Status) (r : BitVec w) : Status :=
  { p with n := r.msb, z := decide (r = 0) }

/-- The byte PHP pushes and an interrupt stacks (R231, R321): the eight flags, but in Emulation mode bit 5 is 1 and bit 4
is 1 for a software and 0 for a hardware source (`brk`). -/
def Status.toByte (p : Status) (e brk : Bool) : Byte :=
  BitVec.ofBool p.n ++ BitVec.ofBool p.v ++ BitVec.ofBool (e || p.m) ++ BitVec.ofBool (if e then brk else p.x) ++
    BitVec.ofBool p.d ++ BitVec.ofBool p.i ++ BitVec.ofBool p.z ++ BitVec.ofBool p.c

/-- P after a byte is pulled into it (R237): M and X only in Native mode. -/
def Status.ofPulled (p : Status) (e : Bool) (b : Byte) : Status :=
  { n := b.getLsbD 7, v := b.getLsbD 6, m := if e then p.m else b.getLsbD 5, x := if e then p.x else b.getLsbD 4,
    d := b.getLsbD 3, i := b.getLsbD 2, z := b.getLsbD 1, c := b.getLsbD 0 }

/-- REP (R295): each 1 bit of the operand clears its flag, M and X only in Native mode. -/
def Status.clearBits (p : Status) (e : Bool) (b : Byte) : Status :=
  { n := p.n && !b.getLsbD 7, v := p.v && !b.getLsbD 6, m := p.m && (e || !b.getLsbD 5),
    x := p.x && (e || !b.getLsbD 4), d := p.d && !b.getLsbD 3, i := p.i && !b.getLsbD 2,
    z := p.z && !b.getLsbD 1, c := p.c && !b.getLsbD 0 }

/-- SEP (R296): each 1 bit of the operand sets its flag, M and X only in Native mode. -/
def Status.setBits (p : Status) (e : Bool) (b : Byte) : Status :=
  { n := p.n || b.getLsbD 7, v := p.v || b.getLsbD 6, m := p.m || (!e && b.getLsbD 5),
    x := p.x || (!e && b.getLsbD 4), d := p.d || b.getLsbD 3, i := p.i || b.getLsbD 2,
    z := p.z || b.getLsbD 1, c := p.c || b.getLsbD 0 }

/-- What an addition or subtraction gives: the result, the carry and the overflow (R160). -/
structure AluResult (w : Nat) where
  /-- The result, w bits. -/
  value : BitVec w
  /-- The carry out. -/
  carry : Bool
  /-- The overflow. -/
  overflow : Bool
deriving DecidableEq, Repr

/-- `AddBin` (R160): the exact sum, its low w bits, the carry out of the top bit, and signed overflow. -/
def addBin {w : Nat} (a b : BitVec w) (c : Bool) : AluResult w :=
  let sum := a.toNat + b.toNat + c.toNat
  let r := BitVec.ofNat w sum
  { value := r, carry := decide (2 ^ w ≤ sum), overflow := (a.msb == b.msb) && (r.msb != a.msb) }

/-- The lowest `k` 4-bit digits of `v` are each 0 to 9 (R163 (a)). -/
def bcdValid : (k v : Nat) → Bool
  | 0, _ => true
  | k + 1, v => decide (v % 16 ≤ 9) && bcdValid k (v / 16)

/-- `dec(v)` (R163 (a)): the number the lowest `k` digits denote. -/
def bcdValue : (k v : Nat) → Nat
  | 0, _ => 0
  | k + 1, v => v % 16 + 10 * bcdValue k (v / 16)

/-- The BCD coding of a number in `k` digits (R163 (b)). -/
def bcdCode : (k n : Nat) → Nat
  | 0, _ => 0
  | k + 1, n => n % 10 + 16 * bcdCode k (n / 10)

/-- The result of a decimal operation on valid operands, and its carry (R163 (b)), with K = 10 ^ (w / 4). -/
def decimalValid (op : DecimalOp) {w : Nat} (a m : BitVec w) (c : Bool) : BitVec w × Bool :=
  let k := w / 4
  let da := bcdValue k a.toNat
  let dm := bcdValue k m.toNat
  match op with
  | .add => (BitVec.ofNat w (bcdCode k ((da + dm + c.toNat) % 10 ^ k)), decide (10 ^ k ≤ da + dm + c.toNat))
  | .sub =>
    let borrow := (!c).toNat
    (BitVec.ofNat w (bcdCode k ((10 ^ k + da - (dm + borrow)) % 10 ^ k)), decide (dm + borrow ≤ da))

/-- `DECIMAL` (R163): result and carry as (b) fixes them for valid BCD operands; V always, and result and carry for other
operands, are free values (U2; log 9). -/
def decimal (op : DecimalOp) {w : Nat} (a m : BitVec w) (c : Bool) : AluResult w :=
  let v := Config.decimalOverflow op w a m c
  if bcdValid (w / 4) a.toNat && bcdValid (w / 4) m.toNat then
    { value := (decimalValid op a m c).1, carry := (decimalValid op a m c).2, overflow := v }
  else
    { value := Config.decimalInvalidResult op w a m c, carry := Config.decimalInvalidCarry op w a m c, overflow := v }

/-- The arithmetic of ADC (R161). -/
def adcResult {w : Nat} (p : Status) (a m : BitVec w) : AluResult w :=
  if p.d then decimal .add a m p.c else addBin a m p.c

/-- The arithmetic of SBC (R162): in binary, `a + not m + C`. -/
def sbcResult {w : Nat} (p : Status) (a m : BitVec w) : AluResult w :=
  if p.d then decimal .sub a m p.c else addBin a (~~~m) p.c

/-- The flags ADC and SBC write (R161, R162). -/
def Status.arith {w : Nat} (p : Status) (r : AluResult w) : Status :=
  { p.setNZ r.value with v := r.overflow, c := r.carry }

/-- `Compare` (R167): C says reg >= m as unsigned numbers, N and Z come from the difference; V is not written. -/
def Status.compare {w : Nat} (p : Status) (reg m : BitVec w) : Status :=
  { p.setNZ (reg - m) with c := decide (m.toNat ≤ reg.toNat) }

/-- The Z of BIT, TRB and TSB (R42, R168, R187, R188): the AND of accumulator and operand is 0. -/
def Status.testZ {w : Nat} (p : Status) (a m : BitVec w) : Status :=
  { p with z := decide (a &&& m = 0) }

/-- BIT with a memory operand (R168): N and V are the operand's two top bits. -/
def Status.bitTest {w : Nat} (p : Status) (a m : BitVec w) : Status :=
  { p.testZ a m with n := m.getLsbD (w - 1), v := m.getLsbD (w - 2) }

/-- A read-modify-write function (R180): from the accumulator, the flags and the old value, the new value and flags, at
every width. -/
abbrev RmwFn := (w : Nat) → BitVec w → Status → BitVec w → BitVec w × Status

/-- ASL (R181). -/
def aslFn : RmwFn := fun _ _ p v =>
  let r := v <<< 1
  (r, { p.setNZ r with c := v.msb })

/-- LSR (R182): N is cleared. -/
def lsrFn : RmwFn := fun _ _ p v =>
  let r := v >>> 1
  (r, { p with n := false, z := decide (r = 0), c := v.getLsbD 0 })

/-- ROL (R183): the old carry enters bit 0. -/
def rolFn : RmwFn := fun w _ p v =>
  let r := v <<< 1 ||| BitVec.ofNat w p.c.toNat
  (r, { p.setNZ r with c := v.msb })

/-- ROR (R184): the old carry enters the top bit. -/
def rorFn : RmwFn := fun w _ p v =>
  let r := v >>> 1 ||| BitVec.ofNat w p.c.toNat <<< (w - 1)
  (r, { p.setNZ r with c := v.getLsbD 0 })

/-- INC (R185): C and V are not written. -/
def incFn : RmwFn := fun _ _ p v => (v + 1, p.setNZ (v + 1))

/-- DEC (R186): C and V are not written. -/
def decFn : RmwFn := fun _ _ p v => (v - 1, p.setNZ (v - 1))

/-- TRB (R187): Z from the AND of accumulator and old value, then the accumulator's bits are cleared. -/
def trbFn : RmwFn := fun _ a p v => (v &&& ~~~a, p.testZ a v)

/-- TSB (R188): Z from the AND of accumulator and old value, then the accumulator's bits are set. -/
def tsbFn : RmwFn := fun _ a p v => (v ||| a, p.testZ a v)

end Sys2Proof.Machine
end

