-- ==== Sys2Proof/Machine/Ops.lean ====
section
/-! DEFINITION. The named operations over memory and registers: memory access and its wrap kinds (R60 to R69), the width
selectors (R9), register writes (R21, R22), pushes and pulls (R220 to R222), taking an interrupt (R320 to R322) and
returning from one (R277), the reset sequence (R351, R352), and fetching (R30, R91). -/

namespace Sys2Proof.Machine

open Sys2Proof

/-! ### Memory as data -/

/-- The byte at a physical address: the first entry for it, or the unlisted byte. -/
def Memory.read : Memory → Nat → Byte
  | [], _ => unlistedByte
  | (a, b) :: rest, k => if a = k then b else Memory.read rest k

/-- Puts an entry at its place in the rising order, replacing the entry for the same address. -/
def Memory.insert : Memory → Nat → Byte → Memory
  | [], k, v => [(k, v)]
  | (a, b) :: rest, k, v =>
    if k < a then (k, v) :: (a, b) :: rest
    else if k = a then (k, v) :: rest
    else (a, b) :: Memory.insert rest k v

/-- Writes a byte: writing what an unlisted address reads as removes the entry, so that equal memories are equal data. -/
def Memory.write (m : Memory) (k : Nat) (v : Byte) : Memory :=
  if v = unlistedByte then m.filter (fun cell => cell.1 ≠ k) else Memory.insert m k v

/-- The physical address the memory system sees (R61): 24 bits on the G65SC816, the low 16 on the G65SC802. -/
def physAddr (v : Variant) (a : Addr) : Nat :=
  match v with
  | .g65sc816 => a.toNat
  | .g65sc802 => a.toNat % 2 ^ 16

/-- The next address of a long-wrap access: carries into the bank, modulo 2^24 (R66, R69). -/
def nextLong (a : Addr) : Addr := a + 1

/-- An address in bank 00 (R67). -/
def bank0 (a : Word) : Addr := mkAddr 0 a

namespace State

/-! ### Width selectors and parameters -/

/-- `m8` (R9): accumulator and memory operands have 8 bits. -/
def m8 (s : State) : Bool := s.e || s.p.m

/-- `x8` (R9): the index registers have 8 bits. -/
def x8 (s : State) : Bool := s.e || s.p.x

/-- `HAS_ABORT` (R7). -/
def hasAbort (s : State) : Bool := s.config.variant == .g65sc816

/-- `HAS_SO` (R7). -/
def hasSo (s : State) : Bool := s.config.variant == .g65sc802

/-- The last step changed M or X, so that the M/X output of the coming cycle is invalid (R45, U5; log 28). -/
def mxJustChanged (s : State) : Bool := s.lastM != s.p.m || s.lastX != s.p.x

/-- The part brings out E, ML and VP: the G65SC816, and the G65SC802 in 44 pins (R3; log 26). -/
def hasStatusPins (s : State) : Bool := s.config.variant == .g65sc816 || s.config.pins44

/-! ### Memory access -/

/-- `MemRead(addr, 1)` (R10, R61). -/
def readByte (s : State) (a : Addr) : Byte := s.mem.read (physAddr s.config.variant a)

/-- `MemWrite(addr, 1, v)` (R10, R61). DESIGN CHOICE: every address is memory that keeps what is written; which addresses
hold RAM, ROM, devices or nothing is the platform's (R78; log 25). -/
def writeByte (s : State) (a : Addr) (v : Byte) : State :=
  { s with mem := s.mem.write (physAddr s.config.variant a) v }

/-- `MemRead0(a16, 2)` (R10, R67): the second byte wraps within bank 00. -/
def readWord0 (s : State) (a : Word) : Word := mkWord (s.readByte (bank0 (a + 1))) (s.readByte (bank0 a))

/-- `MemRead0(a16, 3)` (R10, R67). -/
def readAddr0 (s : State) (a : Word) : Addr := mkAddr (s.readByte (bank0 (a + 2))) (s.readWord0 a)

/-- `MemReadK(a16, 1)` (R10, R68): a byte of the program bank. -/
def readK (s : State) (a : Word) : Byte := s.readByte (mkAddr s.pbr a)

/-- `MemReadK(a16, 2)` (R10, R68): the second byte wraps within the program bank. -/
def readWordK (s : State) (a : Word) : Word := mkWord (s.readK (a + 1)) (s.readK a)

/-! ### Registers -/

/-- A, the low byte of C (R21). -/
def a8 (s : State) : Byte := loByte s.c

/-- The accumulator at a width: A at 8 bits, C at 16 (R21). -/
def acc (s : State) (w : Nat) : BitVec w := s.c.setWidth w

/-- `A <- v`: B keeps its value (R21, D3). -/
def setA (s : State) (v : Byte) : State := { s with c := mkWord (hiByte s.c) v }

/-- `C <- v`. -/
def setC (s : State) (v : Word) : State := { s with c := v }

/-- `XL <- v` while `x8`: XH stays 00 (R22). -/
def setX8 (s : State) (v : Byte) : State := { s with x := zext16 v }

/-- `YL <- v` while `x8`: YH stays 00 (R22). -/
def setY8 (s : State) (v : Byte) : State := { s with y := zext16 v }

/-- N and Z from a result (R10). -/
def setNZ {w : Nat} (s : State) (r : BitVec w) : State := { s with p := s.p.setNZ r }

/-- Fetching moves PC past the instruction's bytes, modulo 2^16, PBR unchanged (R28, R29). -/
def advance (s : State) (n : Nat) : State := { s with pc := s.pc + BitVec.ofNat 16 n }

/-- XH and YH become 00 when X is 1 in Native mode (R22, D2), after an instruction that may have set X. -/
def truncateIndex (s : State) : State :=
  if !s.e && s.p.x then { s with x := zext16 (loByte s.x), y := zext16 (loByte s.y) } else s

/-- Writes P from a pulled byte, as PLP and RTI do (R237). -/
def loadP (s : State) (b : Byte) : State := { s with p := s.p.ofPulled s.e b }.truncateIndex

/-! ### Stack -/

/-- S after one ordinary push: in Emulation mode only SL moves (R220). -/
def spAfterPush (s : State) : Word := if s.e then mkWord (hiByte s.sp) (loByte s.sp - 1) else s.sp - 1

/-- S after one ordinary pull: in Emulation mode only SL moves (R221). -/
def spAfterPull (s : State) : Word := if s.e then mkWord (hiByte s.sp) (loByte s.sp + 1) else s.sp + 1

/-- `Push8` (R220). -/
def push8 (s : State) (v : Byte) : State := { s.writeByte (bank0 s.sp) v with sp := s.spAfterPush }

/-- `Push16` (R220): high byte first. -/
def push16 (s : State) (v : Word) : State := (s.push8 (hiByte v)).push8 (loByte v)

/-- `Pull8` (R221): the byte, and the state with S moved. -/
def pull8 (s : State) : Byte × State := (s.readByte (bank0 s.spAfterPull), { s with sp := s.spAfterPull })

/-- `Pull16` (R221): low byte first. -/
def pull16 (s : State) : Word × State :=
  let lo := s.pull8
  let hi := lo.2.pull8
  (mkWord hi.1 lo.1, hi.2)

/-- `PushNew8` (R222): a full 16-bit S in both modes. -/
def pushNew8 (s : State) (v : Byte) : State := { s.writeByte (bank0 s.sp) v with sp := s.sp - 1 }

/-- `PushNew16` (R222). -/
def pushNew16 (s : State) (v : Word) : State := (s.pushNew8 (hiByte v)).pushNew8 (loByte v)

/-- `PullNew8` (R222). -/
def pullNew8 (s : State) : Byte × State := (s.readByte (bank0 (s.sp + 1)), { s with sp := s.sp + 1 })

/-- `PullNew16` (R222): low byte first. -/
def pullNew16 (s : State) : Word × State :=
  let lo := s.pullNew8
  let hi := lo.2.pullNew8
  (mkWord hi.1 lo.1, hi.2)

/-- `EndNew` (R222, D7): in Emulation mode SH is forced back to 01. -/
def endNew (s : State) : State := if s.e then { s with sp := mkWord 0x01 (loByte s.sp) } else s

end State

/-! ### Interrupts -/

/-- The sources of the interrupt processing sequence (R311, R320); RES has its own (R352). -/
inductive Interrupt where
  /-- Opcode 00. -/
  | brk
  /-- Opcode 02. -/
  | cop
  /-- The ABORT input. -/
  | abort
  /-- The NMI input. -/
  | nmi
  /-- The IRQ input. -/
  | irq
deriving DecidableEq, Repr

/-- BRK and COP are software sources: they push bit 4 of P as 1 in Emulation mode (R321). -/
def Interrupt.software : Interrupt → Bool
  | .brk => true
  | .cop => true
  | .abort => false
  | .nmi => false
  | .irq => false

/-- `Vector(K, E)` (R75, R311, R322): the bank-00 address of the vector's low byte. -/
def Interrupt.vector (k : Interrupt) (e : Bool) : Word :=
  match k with
  | .brk => if e then 0xFFFE else 0xFFE6
  | .cop => if e then 0xFFF4 else 0xFFE4
  | .abort => if e then 0xFFF8 else 0xFFE8
  | .nmi => if e then 0xFFFA else 0xFFEA
  | .irq => if e then 0xFFFE else 0xFFEE

/-- The reset vector (R75). -/
def resetVector : Word := 0xFFFC

namespace State

/-- The three or four pushes of the interrupt sequence (R320): PBR in Native mode only, the return address, P. -/
def stackInterrupt (s : State) (k : Interrupt) (r : Word) : State :=
  ((if s.e then s else s.push8 s.pbr).push16 r).push8 (s.p.toByte s.e k.software)

/-- `raise K with pushed PC = r` (R320): push PBR (Native), the return address and P, clear D, set I, PBR <- 00, PC from
the vector of R322, and clear the latch of the source. -/
def takeInterrupt (s : State) (k : Interrupt) (r : Word) : State :=
  let t := s.stackInterrupt k r
  { t with
    p := { t.p with d := false, i := true }
    pbr := 0
    pc := t.readWord0 (k.vector s.e)
    nmiPending := if k = .nmi then false else t.nmiPending
    abortPending := if k = .abort then false else t.abortPending }

/-- RTI's effect (R277): P as PLP writes it, PC, and PBR in Native mode. -/
def returnFromInterrupt (s : State) : State :=
  let status := s.pull8
  let t := status.2.loadP status.1
  let ret := t.pull16
  let u := { ret.2 with pc := ret.1 }
  if u.e then u else { u.pull8.2 with pbr := u.pull8.1 }

/-- The reset sequence (R351, R352): what RES initialises, PC from the reset vector, no memory write. What R52 marks "not
initialised" takes a free value (R353, U1; log 3). -/
def resetSequence (s : State) : State :=
  let u := Config.resetUnknowns s.freeCount
  { c := u.c
    x := zext16 u.xl
    y := zext16 u.yl
    sp := mkWord 0x01 u.sl
    d := 0
    pc := s.readWord0 resetVector
    dbr := 0
    pbr := 0
    p := { n := u.n, v := u.v, m := true, x := true, d := false, i := true, z := u.z, c := u.carry }
    e := true
    waiting := false
    stopped := false
    nmiPending := false
    abortPending := false
    mem := s.mem
    config := s.config
    inputs := s.inputs
    freeCount := s.freeCount + 1
    lastM := true
    lastX := true }

/-! ### Fetch -/

/-- The bytes from PC up, wrapping within the program bank (R28, R91): as many as the longest instruction has. Reading a
byte that the instruction does not have changes nothing (R74; log 21). -/
def fetchBytes (s : State) : List Byte :=
  [s.readK s.pc, s.readK (s.pc + 1), s.readK (s.pc + 2), s.readK (s.pc + 3)]

/-- The instruction at PBR:PC for the current widths (R14, R93). -/
def fetch (s : State) : Except DecodeError Instr :=
  match decode s.m8 s.x8 s.fetchBytes with
  | .ok (i, _) => .ok i
  | .error e => .error e

/-- Writes bytes from an address of the program bank up, wrapping within it (R28). -/
def storeK (s : State) : Word → List Byte → State
  | _, [] => s
  | a, b :: rest => (s.writeByte (mkAddr s.pbr a) b).storeK (a + 1) rest

end State

end Sys2Proof.Machine
end

