-- ==== Sys2Proof/Machine/Operands.lean ====
section
/-! DEFINITION. The addressing modes: effective addresses with their wrap kinds (R110 to R138), the operand access of R150,
and the read-modify-write frame of R180. -/

namespace Sys2Proof.Machine

open Sys2Proof

/-- Where a memory operand stands, with the wrap kind of its second byte (R112). -/
inductive Place where
  /-- Wrap kind `long` (R66): a 24-bit effective address. -/
  | long (a : Addr)
  /-- Wrap kind `bank0` (R67): an address in bank 00. -/
  | bank0 (a : Word)
deriving DecidableEq, Repr

/-- The address of the operand's first byte. -/
def Place.first : Place → Addr
  | .long a => a
  | .bank0 a => Machine.bank0 a

/-- The address of the operand's second byte (R66, R67). -/
def Place.second : Place → Addr
  | .long a => nextLong a
  | .bank0 a => Machine.bank0 (a + 1)

namespace State

/-- `dwrap` (R113): Emulation mode with DL = 00. -/
def dwrap (s : State) : Bool := s.e && decide (loByte s.d = 0)

/-- `D + offset` in bank 00 (R122). -/
def dirAddr (s : State) (o : Byte) : Word := s.d + zext16 o

/-- `DirIdx` (R113). -/
def dirIdx (s : State) (o : Byte) (idx : Word) : Word :=
  if s.dwrap then mkWord (hiByte s.d) (o + loByte idx) else s.d + zext16 o + idx

/-- Where the second byte of a 16-bit direct pointer at `p` stands (R113). -/
def dirPtrSecond (s : State) (p : Word) : Word := if s.dwrap then mkWord (hiByte p) (loByte p + 1) else p + 1

/-- `DirPtr16` (R113). -/
def dirPtr16 (s : State) (p : Word) : Word :=
  mkWord (s.readByte (Machine.bank0 (s.dirPtrSecond p))) (s.readByte (Machine.bank0 p))

/-- The address of the pointer of a stack-relative mode, and of its operand (R135): not wrapped into page 1. -/
def stkAddr (s : State) (o : Byte) : Word := s.sp + zext16 o

/-- The effective address of a memory mode with its wrap kind (R117 to R129, R135, R136). -/
def place (s : State) : MemMode → Place
  | .dir o => .bank0 (s.dirAddr o)
  | .dirX o => .bank0 (s.dirIdx o s.x)
  | .dirY o => .bank0 (s.dirIdx o s.y)
  | .dirInd o => .long (mkAddr s.dbr (s.dirPtr16 (s.dirAddr o)))
  | .dirXInd o => .long (mkAddr s.dbr (s.dirPtr16 (s.dirIdx o s.x)))
  | .dirIndY o => .long (mkAddr s.dbr (s.dirPtr16 (s.dirAddr o)) + zext24 s.y)
  | .dirIndLong o => .long (s.readAddr0 (s.dirAddr o))
  | .dirIndLongY o => .long (s.readAddr0 (s.dirAddr o) + zext24 s.y)
  | .abs a => .long (mkAddr s.dbr a)
  | .absX a => .long (mkAddr s.dbr a + zext24 s.x)
  | .absY a => .long (mkAddr s.dbr a + zext24 s.y)
  | .long a => .long a
  | .longX a => .long (a + zext24 s.x)
  | .stkRel o => .bank0 (s.stkAddr o)
  | .stkRelIndY o => .long (mkAddr s.dbr (s.readWord0 (s.stkAddr o)) + zext24 s.y)

/-- The byte at a place. -/
def load8 (s : State) (pl : Place) : Byte := s.readByte pl.first

/-- The word at a place, low byte first (R62). -/
def load16 (s : State) (pl : Place) : Word := mkWord (s.readByte pl.second) (s.readByte pl.first)

/-- Stores a byte at a place. -/
def store8 (s : State) (pl : Place) (v : Byte) : State := s.writeByte pl.first v

/-- Stores a word at a place, low byte first (R62, R72). -/
def store16 (s : State) (pl : Place) (v : Word) : State :=
  (s.writeByte pl.first (loByte v)).writeByte pl.second (hiByte v)

/-- `RdOp` at 8 bits (R150). An immediate of the other width, which no decoding gives, is cut to 8 bits (log 14). -/
def operand8 (s : State) : Src → Byte
  | .imm (.byte v) => v
  | .imm (.word v) => loByte v
  | .mem m => s.load8 (s.place m)

/-- `RdOp` at 16 bits (R150). An immediate of the other width, which no decoding gives, is extended by zeros (log 14). -/
def operand16 (s : State) : Src → Word
  | .imm (.byte v) => zext16 v
  | .imm (.word v) => v
  | .mem m => s.load16 (s.place m)

/-- The write-back of an 8-bit read-modify-write (R73): in Emulation mode the old value is written first. -/
def writeBack8 (s : State) (pl : Place) (old new : Byte) : State :=
  if s.e then (s.store8 pl old).store8 pl new else s.store8 pl new

/-- The write-back of a 16-bit read-modify-write, Native mode only: high byte first, then low byte (R72, R73). -/
def writeBack16 (s : State) (pl : Place) (new : Word) : State :=
  (s.writeByte pl.second (hiByte new)).writeByte pl.first (loByte new)

/-- `RMW(f)` on memory (R180): the effective address is computed once. -/
def modifyMem (s : State) (f : RmwFn) (m : MemMode) : State :=
  let pl := s.place m
  if s.m8 then
    let r := f 8 (s.acc 8) s.p (s.load8 pl)
    { s.writeBack8 pl (s.load8 pl) r.1 with p := r.2 }
  else
    let r := f 16 (s.acc 16) s.p (s.load16 pl)
    { s.writeBack16 pl r.1 with p := r.2 }

/-- `RMW(f)` on the accumulator (R115, R180): at 8 bits B keeps its value. -/
def modifyAcc (s : State) (f : RmwFn) : State :=
  if s.m8 then
    let r := f 8 (s.acc 8) s.p (s.acc 8)
    { s.setA r.1 with p := r.2 }
  else
    let r := f 16 (s.acc 16) s.p (s.acc 16)
    { s.setC r.1 with p := r.2 }

end State

end Sys2Proof.Machine
end

