-- ==== Sys2Proof/Machine/Alu.lean ====
section
/-! DEFINITION. Arithmetic, logic, compare and bit test: ADC SBC AND ORA EOR CMP CPX CPY BIT (R160 to R171). -/

namespace Sys2Proof.Machine

open Sys2Proof

namespace State

/-- ADC (R161). -/
def adc (s : State) (src : Src) : State :=
  if s.m8 then
    let r := adcResult s.p (s.acc 8) (s.operand8 src)
    { s.setA r.value with p := s.p.arith r }
  else
    let r := adcResult s.p (s.acc 16) (s.operand16 src)
    { s.setC r.value with p := s.p.arith r }

/-- SBC (R162). -/
def sbc (s : State) (src : Src) : State :=
  if s.m8 then
    let r := sbcResult s.p (s.acc 8) (s.operand8 src)
    { s.setA r.value with p := s.p.arith r }
  else
    let r := sbcResult s.p (s.acc 16) (s.operand16 src)
    { s.setC r.value with p := s.p.arith r }

/-- A bitwise operation on the accumulator, with N and Z from the result (R164 to R166). -/
def logic (s : State) (f : (w : Nat) → BitVec w → BitVec w → BitVec w) (src : Src) : State :=
  if s.m8 then
    let r := f 8 (s.acc 8) (s.operand8 src)
    (s.setA r).setNZ r
  else
    let r := f 16 (s.acc 16) (s.operand16 src)
    (s.setC r).setNZ r

/-- AND (R164). -/
def andA (s : State) (src : Src) : State := s.logic (fun _ a m => a &&& m) src

/-- ORA (R165). -/
def ora (s : State) (src : Src) : State := s.logic (fun _ a m => a ||| m) src

/-- EOR (R166). -/
def eor (s : State) (src : Src) : State := s.logic (fun _ a m => a ^^^ m) src

/-- CMP (R167): no register is written. -/
def cmp (s : State) (src : Src) : State :=
  if s.m8 then { s with p := s.p.compare (s.acc 8) (s.operand8 src) }
  else { s with p := s.p.compare (s.acc 16) (s.operand16 src) }

/-- CPX (R169). -/
def cpx (s : State) (src : Src) : State :=
  if s.x8 then { s with p := s.p.compare (loByte s.x) (s.operand8 src) }
  else { s with p := s.p.compare s.x (s.operand16 src) }

/-- CPY (R170). -/
def cpy (s : State) (src : Src) : State :=
  if s.x8 then { s with p := s.p.compare (loByte s.y) (s.operand8 src) }
  else { s with p := s.p.compare s.y (s.operand16 src) }

/-- BIT with an immediate (R168): Z alone is written. -/
def bitImm (s : State) (v : Imm) : State :=
  if s.m8 then { s with p := s.p.testZ (s.acc 8) (s.operand8 (.imm v)) }
  else { s with p := s.p.testZ (s.acc 16) (s.operand16 (.imm v)) }

/-- BIT with a memory operand (R168): N, V and Z are written. -/
def bitMem (s : State) (m : MemMode) : State :=
  if s.m8 then { s with p := s.p.bitTest (s.acc 8) (s.load8 (s.place m)) }
  else { s with p := s.p.bitTest (s.acc 16) (s.load16 (s.place m)) }

end State

/-- ADC `(d,x)`, opcode 61 (R161, operand R126). -/
def execAdcDirXInd (o : Byte) (s : State) : Result := .next ((s.advance 2).adc (.mem (.dirXInd o)))

/-- ADC `d,s`, opcode 63 (R161, operand R135). -/
def execAdcStkRel (o : Byte) (s : State) : Result := .next ((s.advance 2).adc (.mem (.stkRel o)))

/-- ADC `d`, opcode 65 (R161, operand R122). -/
def execAdcDir (o : Byte) (s : State) : Result := .next ((s.advance 2).adc (.mem (.dir o)))

/-- ADC `[d]`, opcode 67 (R161, operand R128). -/
def execAdcDirIndLong (o : Byte) (s : State) : Result := .next ((s.advance 2).adc (.mem (.dirIndLong o)))

/-- ADC `#`, opcode 69 (R161, operand R114). -/
def execAdcImm (v : Imm) (s : State) : Result := .next ((s.advance (1 + v.bytes)).adc (.imm v))

/-- ADC `a`, opcode 6D (R161, operand R117). -/
def execAdcAbs (a : Word) (s : State) : Result := .next ((s.advance 3).adc (.mem (.abs a)))

/-- ADC `al`, opcode 6F (R161, operand R118). -/
def execAdcLong (a : Addr) (s : State) : Result := .next ((s.advance 4).adc (.mem (.long a)))

/-- ADC `(d),y`, opcode 71 (R161, operand R127). -/
def execAdcDirIndY (o : Byte) (s : State) : Result := .next ((s.advance 2).adc (.mem (.dirIndY o)))

/-- ADC `(d)`, opcode 72 (R161, operand R125). -/
def execAdcDirInd (o : Byte) (s : State) : Result := .next ((s.advance 2).adc (.mem (.dirInd o)))

/-- ADC `(d,s),y`, opcode 73 (R161, operand R136). -/
def execAdcStkRelIndY (o : Byte) (s : State) : Result := .next ((s.advance 2).adc (.mem (.stkRelIndY o)))

/-- ADC `d,x`, opcode 75 (R161, operand R123). -/
def execAdcDirX (o : Byte) (s : State) : Result := .next ((s.advance 2).adc (.mem (.dirX o)))

/-- ADC `[d],y`, opcode 77 (R161, operand R129). -/
def execAdcDirIndLongY (o : Byte) (s : State) : Result := .next ((s.advance 2).adc (.mem (.dirIndLongY o)))

/-- ADC `a,y`, opcode 79 (R161, operand R120). -/
def execAdcAbsY (a : Word) (s : State) : Result := .next ((s.advance 3).adc (.mem (.absY a)))

/-- ADC `a,x`, opcode 7D (R161, operand R119). -/
def execAdcAbsX (a : Word) (s : State) : Result := .next ((s.advance 3).adc (.mem (.absX a)))

/-- ADC `al,x`, opcode 7F (R161, operand R121). -/
def execAdcLongX (a : Addr) (s : State) : Result := .next ((s.advance 4).adc (.mem (.longX a)))

/-- SBC `(d,x)`, opcode E1 (R162, operand R126). -/
def execSbcDirXInd (o : Byte) (s : State) : Result := .next ((s.advance 2).sbc (.mem (.dirXInd o)))

/-- SBC `d,s`, opcode E3 (R162, operand R135). -/
def execSbcStkRel (o : Byte) (s : State) : Result := .next ((s.advance 2).sbc (.mem (.stkRel o)))

/-- SBC `d`, opcode E5 (R162, operand R122). -/
def execSbcDir (o : Byte) (s : State) : Result := .next ((s.advance 2).sbc (.mem (.dir o)))

/-- SBC `[d]`, opcode E7 (R162, operand R128). -/
def execSbcDirIndLong (o : Byte) (s : State) : Result := .next ((s.advance 2).sbc (.mem (.dirIndLong o)))

/-- SBC `#`, opcode E9 (R162, operand R114). -/
def execSbcImm (v : Imm) (s : State) : Result := .next ((s.advance (1 + v.bytes)).sbc (.imm v))

/-- SBC `a`, opcode ED (R162, operand R117). -/
def execSbcAbs (a : Word) (s : State) : Result := .next ((s.advance 3).sbc (.mem (.abs a)))

/-- SBC `al`, opcode EF (R162, operand R118). -/
def execSbcLong (a : Addr) (s : State) : Result := .next ((s.advance 4).sbc (.mem (.long a)))

/-- SBC `(d),y`, opcode F1 (R162, operand R127). -/
def execSbcDirIndY (o : Byte) (s : State) : Result := .next ((s.advance 2).sbc (.mem (.dirIndY o)))

/-- SBC `(d)`, opcode F2 (R162, operand R125). -/
def execSbcDirInd (o : Byte) (s : State) : Result := .next ((s.advance 2).sbc (.mem (.dirInd o)))

/-- SBC `(d,s),y`, opcode F3 (R162, operand R136). -/
def execSbcStkRelIndY (o : Byte) (s : State) : Result := .next ((s.advance 2).sbc (.mem (.stkRelIndY o)))

/-- SBC `d,x`, opcode F5 (R162, operand R123). -/
def execSbcDirX (o : Byte) (s : State) : Result := .next ((s.advance 2).sbc (.mem (.dirX o)))

/-- SBC `[d],y`, opcode F7 (R162, operand R129). -/
def execSbcDirIndLongY (o : Byte) (s : State) : Result := .next ((s.advance 2).sbc (.mem (.dirIndLongY o)))

/-- SBC `a,y`, opcode F9 (R162, operand R120). -/
def execSbcAbsY (a : Word) (s : State) : Result := .next ((s.advance 3).sbc (.mem (.absY a)))

/-- SBC `a,x`, opcode FD (R162, operand R119). -/
def execSbcAbsX (a : Word) (s : State) : Result := .next ((s.advance 3).sbc (.mem (.absX a)))

/-- SBC `al,x`, opcode FF (R162, operand R121). -/
def execSbcLongX (a : Addr) (s : State) : Result := .next ((s.advance 4).sbc (.mem (.longX a)))

/-- AND `(d,x)`, opcode 21 (R164, operand R126). -/
def execAndDirXInd (o : Byte) (s : State) : Result := .next ((s.advance 2).andA (.mem (.dirXInd o)))

/-- AND `d,s`, opcode 23 (R164, operand R135). -/
def execAndStkRel (o : Byte) (s : State) : Result := .next ((s.advance 2).andA (.mem (.stkRel o)))

/-- AND `d`, opcode 25 (R164, operand R122). -/
def execAndDir (o : Byte) (s : State) : Result := .next ((s.advance 2).andA (.mem (.dir o)))

/-- AND `[d]`, opcode 27 (R164, operand R128). -/
def execAndDirIndLong (o : Byte) (s : State) : Result := .next ((s.advance 2).andA (.mem (.dirIndLong o)))

/-- AND `#`, opcode 29 (R164, operand R114). -/
def execAndImm (v : Imm) (s : State) : Result := .next ((s.advance (1 + v.bytes)).andA (.imm v))

/-- AND `a`, opcode 2D (R164, operand R117). -/
def execAndAbs (a : Word) (s : State) : Result := .next ((s.advance 3).andA (.mem (.abs a)))

/-- AND `al`, opcode 2F (R164, operand R118). -/
def execAndLong (a : Addr) (s : State) : Result := .next ((s.advance 4).andA (.mem (.long a)))

/-- AND `(d),y`, opcode 31 (R164, operand R127). -/
def execAndDirIndY (o : Byte) (s : State) : Result := .next ((s.advance 2).andA (.mem (.dirIndY o)))

/-- AND `(d)`, opcode 32 (R164, operand R125). -/
def execAndDirInd (o : Byte) (s : State) : Result := .next ((s.advance 2).andA (.mem (.dirInd o)))

/-- AND `(d,s),y`, opcode 33 (R164, operand R136). -/
def execAndStkRelIndY (o : Byte) (s : State) : Result := .next ((s.advance 2).andA (.mem (.stkRelIndY o)))

/-- AND `d,x`, opcode 35 (R164, operand R123). -/
def execAndDirX (o : Byte) (s : State) : Result := .next ((s.advance 2).andA (.mem (.dirX o)))

/-- AND `[d],y`, opcode 37 (R164, operand R129). -/
def execAndDirIndLongY (o : Byte) (s : State) : Result := .next ((s.advance 2).andA (.mem (.dirIndLongY o)))

/-- AND `a,y`, opcode 39 (R164, operand R120). -/
def execAndAbsY (a : Word) (s : State) : Result := .next ((s.advance 3).andA (.mem (.absY a)))

/-- AND `a,x`, opcode 3D (R164, operand R119). -/
def execAndAbsX (a : Word) (s : State) : Result := .next ((s.advance 3).andA (.mem (.absX a)))

/-- AND `al,x`, opcode 3F (R164, operand R121). -/
def execAndLongX (a : Addr) (s : State) : Result := .next ((s.advance 4).andA (.mem (.longX a)))

/-- ORA `(d,x)`, opcode 01 (R165, operand R126). -/
def execOraDirXInd (o : Byte) (s : State) : Result := .next ((s.advance 2).ora (.mem (.dirXInd o)))

/-- ORA `d,s`, opcode 03 (R165, operand R135). -/
def execOraStkRel (o : Byte) (s : State) : Result := .next ((s.advance 2).ora (.mem (.stkRel o)))

/-- ORA `d`, opcode 05 (R165, operand R122). -/
def execOraDir (o : Byte) (s : State) : Result := .next ((s.advance 2).ora (.mem (.dir o)))

/-- ORA `[d]`, opcode 07 (R165, operand R128). -/
def execOraDirIndLong (o : Byte) (s : State) : Result := .next ((s.advance 2).ora (.mem (.dirIndLong o)))

/-- ORA `#`, opcode 09 (R165, operand R114). -/
def execOraImm (v : Imm) (s : State) : Result := .next ((s.advance (1 + v.bytes)).ora (.imm v))

/-- ORA `a`, opcode 0D (R165, operand R117). -/
def execOraAbs (a : Word) (s : State) : Result := .next ((s.advance 3).ora (.mem (.abs a)))

/-- ORA `al`, opcode 0F (R165, operand R118). -/
def execOraLong (a : Addr) (s : State) : Result := .next ((s.advance 4).ora (.mem (.long a)))

/-- ORA `(d),y`, opcode 11 (R165, operand R127). -/
def execOraDirIndY (o : Byte) (s : State) : Result := .next ((s.advance 2).ora (.mem (.dirIndY o)))

/-- ORA `(d)`, opcode 12 (R165, operand R125). -/
def execOraDirInd (o : Byte) (s : State) : Result := .next ((s.advance 2).ora (.mem (.dirInd o)))

/-- ORA `(d,s),y`, opcode 13 (R165, operand R136). -/
def execOraStkRelIndY (o : Byte) (s : State) : Result := .next ((s.advance 2).ora (.mem (.stkRelIndY o)))

/-- ORA `d,x`, opcode 15 (R165, operand R123). -/
def execOraDirX (o : Byte) (s : State) : Result := .next ((s.advance 2).ora (.mem (.dirX o)))

/-- ORA `[d],y`, opcode 17 (R165, operand R129). -/
def execOraDirIndLongY (o : Byte) (s : State) : Result := .next ((s.advance 2).ora (.mem (.dirIndLongY o)))

/-- ORA `a,y`, opcode 19 (R165, operand R120). -/
def execOraAbsY (a : Word) (s : State) : Result := .next ((s.advance 3).ora (.mem (.absY a)))

/-- ORA `a,x`, opcode 1D (R165, operand R119). -/
def execOraAbsX (a : Word) (s : State) : Result := .next ((s.advance 3).ora (.mem (.absX a)))

/-- ORA `al,x`, opcode 1F (R165, operand R121). -/
def execOraLongX (a : Addr) (s : State) : Result := .next ((s.advance 4).ora (.mem (.longX a)))

/-- EOR `(d,x)`, opcode 41 (R166, operand R126). -/
def execEorDirXInd (o : Byte) (s : State) : Result := .next ((s.advance 2).eor (.mem (.dirXInd o)))

/-- EOR `d,s`, opcode 43 (R166, operand R135). -/
def execEorStkRel (o : Byte) (s : State) : Result := .next ((s.advance 2).eor (.mem (.stkRel o)))

/-- EOR `d`, opcode 45 (R166, operand R122). -/
def execEorDir (o : Byte) (s : State) : Result := .next ((s.advance 2).eor (.mem (.dir o)))

/-- EOR `[d]`, opcode 47 (R166, operand R128). -/
def execEorDirIndLong (o : Byte) (s : State) : Result := .next ((s.advance 2).eor (.mem (.dirIndLong o)))

/-- EOR `#`, opcode 49 (R166, operand R114). -/
def execEorImm (v : Imm) (s : State) : Result := .next ((s.advance (1 + v.bytes)).eor (.imm v))

/-- EOR `a`, opcode 4D (R166, operand R117). -/
def execEorAbs (a : Word) (s : State) : Result := .next ((s.advance 3).eor (.mem (.abs a)))

/-- EOR `al`, opcode 4F (R166, operand R118). -/
def execEorLong (a : Addr) (s : State) : Result := .next ((s.advance 4).eor (.mem (.long a)))

/-- EOR `(d),y`, opcode 51 (R166, operand R127). -/
def execEorDirIndY (o : Byte) (s : State) : Result := .next ((s.advance 2).eor (.mem (.dirIndY o)))

/-- EOR `(d)`, opcode 52 (R166, operand R125). -/
def execEorDirInd (o : Byte) (s : State) : Result := .next ((s.advance 2).eor (.mem (.dirInd o)))

/-- EOR `(d,s),y`, opcode 53 (R166, operand R136). -/
def execEorStkRelIndY (o : Byte) (s : State) : Result := .next ((s.advance 2).eor (.mem (.stkRelIndY o)))

/-- EOR `d,x`, opcode 55 (R166, operand R123). -/
def execEorDirX (o : Byte) (s : State) : Result := .next ((s.advance 2).eor (.mem (.dirX o)))

/-- EOR `[d],y`, opcode 57 (R166, operand R129). -/
def execEorDirIndLongY (o : Byte) (s : State) : Result := .next ((s.advance 2).eor (.mem (.dirIndLongY o)))

/-- EOR `a,y`, opcode 59 (R166, operand R120). -/
def execEorAbsY (a : Word) (s : State) : Result := .next ((s.advance 3).eor (.mem (.absY a)))

/-- EOR `a,x`, opcode 5D (R166, operand R119). -/
def execEorAbsX (a : Word) (s : State) : Result := .next ((s.advance 3).eor (.mem (.absX a)))

/-- EOR `al,x`, opcode 5F (R166, operand R121). -/
def execEorLongX (a : Addr) (s : State) : Result := .next ((s.advance 4).eor (.mem (.longX a)))

/-- CMP `(d,x)`, opcode C1 (R167, operand R126). -/
def execCmpDirXInd (o : Byte) (s : State) : Result := .next ((s.advance 2).cmp (.mem (.dirXInd o)))

/-- CMP `d,s`, opcode C3 (R167, operand R135). -/
def execCmpStkRel (o : Byte) (s : State) : Result := .next ((s.advance 2).cmp (.mem (.stkRel o)))

/-- CMP `d`, opcode C5 (R167, operand R122). -/
def execCmpDir (o : Byte) (s : State) : Result := .next ((s.advance 2).cmp (.mem (.dir o)))

/-- CMP `[d]`, opcode C7 (R167, operand R128). -/
def execCmpDirIndLong (o : Byte) (s : State) : Result := .next ((s.advance 2).cmp (.mem (.dirIndLong o)))

/-- CMP `#`, opcode C9 (R167, operand R114). -/
def execCmpImm (v : Imm) (s : State) : Result := .next ((s.advance (1 + v.bytes)).cmp (.imm v))

/-- CMP `a`, opcode CD (R167, operand R117). -/
def execCmpAbs (a : Word) (s : State) : Result := .next ((s.advance 3).cmp (.mem (.abs a)))

/-- CMP `al`, opcode CF (R167, operand R118). -/
def execCmpLong (a : Addr) (s : State) : Result := .next ((s.advance 4).cmp (.mem (.long a)))

/-- CMP `(d),y`, opcode D1 (R167, operand R127). -/
def execCmpDirIndY (o : Byte) (s : State) : Result := .next ((s.advance 2).cmp (.mem (.dirIndY o)))

/-- CMP `(d)`, opcode D2 (R167, operand R125). -/
def execCmpDirInd (o : Byte) (s : State) : Result := .next ((s.advance 2).cmp (.mem (.dirInd o)))

/-- CMP `(d,s),y`, opcode D3 (R167, operand R136). -/
def execCmpStkRelIndY (o : Byte) (s : State) : Result := .next ((s.advance 2).cmp (.mem (.stkRelIndY o)))

/-- CMP `d,x`, opcode D5 (R167, operand R123). -/
def execCmpDirX (o : Byte) (s : State) : Result := .next ((s.advance 2).cmp (.mem (.dirX o)))

/-- CMP `[d],y`, opcode D7 (R167, operand R129). -/
def execCmpDirIndLongY (o : Byte) (s : State) : Result := .next ((s.advance 2).cmp (.mem (.dirIndLongY o)))

/-- CMP `a,y`, opcode D9 (R167, operand R120). -/
def execCmpAbsY (a : Word) (s : State) : Result := .next ((s.advance 3).cmp (.mem (.absY a)))

/-- CMP `a,x`, opcode DD (R167, operand R119). -/
def execCmpAbsX (a : Word) (s : State) : Result := .next ((s.advance 3).cmp (.mem (.absX a)))

/-- CMP `al,x`, opcode DF (R167, operand R121). -/
def execCmpLongX (a : Addr) (s : State) : Result := .next ((s.advance 4).cmp (.mem (.longX a)))

/-- BIT `d`, opcode 24 (R168, operand R122). -/
def execBitDir (o : Byte) (s : State) : Result := .next ((s.advance 2).bitMem (.dir o))

/-- BIT `a`, opcode 2C (R168, operand R117). -/
def execBitAbs (a : Word) (s : State) : Result := .next ((s.advance 3).bitMem (.abs a))

/-- BIT `d,x`, opcode 34 (R168, operand R123). -/
def execBitDirX (o : Byte) (s : State) : Result := .next ((s.advance 2).bitMem (.dirX o))

/-- BIT `a,x`, opcode 3C (R168, operand R119). -/
def execBitAbsX (a : Word) (s : State) : Result := .next ((s.advance 3).bitMem (.absX a))

/-- BIT `#`, opcode 89 (R168, operand R114). -/
def execBitImm (v : Imm) (s : State) : Result := .next ((s.advance (1 + v.bytes)).bitImm v)

/-- CPX `#`, opcode E0 (R169, operand R114). -/
def execCpxImm (v : Imm) (s : State) : Result := .next ((s.advance (1 + v.bytes)).cpx (.imm v))

/-- CPX `d`, opcode E4 (R169, operand R122). -/
def execCpxDir (o : Byte) (s : State) : Result := .next ((s.advance 2).cpx (.mem (.dir o)))

/-- CPX `a`, opcode EC (R169, operand R117). -/
def execCpxAbs (a : Word) (s : State) : Result := .next ((s.advance 3).cpx (.mem (.abs a)))

/-- CPY `#`, opcode C0 (R170, operand R114). -/
def execCpyImm (v : Imm) (s : State) : Result := .next ((s.advance (1 + v.bytes)).cpy (.imm v))

/-- CPY `d`, opcode C4 (R170, operand R122). -/
def execCpyDir (o : Byte) (s : State) : Result := .next ((s.advance 2).cpy (.mem (.dir o)))

/-- CPY `a`, opcode CC (R170, operand R117). -/
def execCpyAbs (a : Word) (s : State) : Result := .next ((s.advance 3).cpy (.mem (.abs a)))

end Sys2Proof.Machine
end

