-- ==== Sys2Proof/Machine/Branch.lean ====
section
/-! DEFINITION. Branches, flag set and clear, index increment and decrement, NOP (R190 to R212). -/

namespace Sys2Proof.Machine

open Sys2Proof

namespace State

/-- `Branch(cond)` with PC already past the operand (R130, R190). -/
def branchIf (s : State) (cond : Bool) (r : Byte) : State :=
  if cond then { s with pc := s.pc + sext16 r } else s

/-- INX and DEX (R207, R209): X moves by one at the index width, with N and Z. -/
def stepX (s : State) (delta : Int) : State :=
  if s.x8 then (s.setX8 (loByte s.x + BitVec.ofInt 8 delta)).setNZ (loByte s.x + BitVec.ofInt 8 delta)
  else { s with x := s.x + BitVec.ofInt 16 delta }.setNZ (s.x + BitVec.ofInt 16 delta)

/-- INY and DEY (R208, R210): Y moves by one at the index width, with N and Z. -/
def stepY (s : State) (delta : Int) : State :=
  if s.x8 then (s.setY8 (loByte s.y + BitVec.ofInt 8 delta)).setNZ (loByte s.y + BitVec.ofInt 8 delta)
  else { s with y := s.y + BitVec.ofInt 16 delta }.setNZ (s.y + BitVec.ofInt 16 delta)

end State

/-- BCC `r`, opcode 90 (R191, operand R130). -/
def execBcc (r : Byte) (s : State) : Result := .next ((s.advance 2).branchIf (!s.p.c) r)

/-- BCS `r`, opcode B0 (R192, operand R130). -/
def execBcs (r : Byte) (s : State) : Result := .next ((s.advance 2).branchIf s.p.c r)

/-- BEQ `r`, opcode F0 (R193, operand R130). -/
def execBeq (r : Byte) (s : State) : Result := .next ((s.advance 2).branchIf s.p.z r)

/-- BMI `r`, opcode 30 (R194, operand R130). -/
def execBmi (r : Byte) (s : State) : Result := .next ((s.advance 2).branchIf s.p.n r)

/-- BNE `r`, opcode D0 (R195, operand R130). -/
def execBne (r : Byte) (s : State) : Result := .next ((s.advance 2).branchIf (!s.p.z) r)

/-- BPL `r`, opcode 10 (R196, operand R130). -/
def execBpl (r : Byte) (s : State) : Result := .next ((s.advance 2).branchIf (!s.p.n) r)

/-- BRA `r`, opcode 80 (R197, operand R130). -/
def execBra (r : Byte) (s : State) : Result := .next ((s.advance 2).branchIf true r)

/-- BVC `r`, opcode 50 (R198, operand R130). -/
def execBvc (r : Byte) (s : State) : Result := .next ((s.advance 2).branchIf (!s.p.v) r)

/-- BVS `r`, opcode 70 (R199, operand R130). -/
def execBvs (r : Byte) (s : State) : Result := .next ((s.advance 2).branchIf s.p.v r)

/-- CLC, opcode 18 (R200). -/
def execClc (s : State) : Result := .next { s.advance 1 with p := { s.p with c := false } }

/-- CLD, opcode D8 (R201). -/
def execCld (s : State) : Result := .next { s.advance 1 with p := { s.p with d := false } }

/-- CLI, opcode 58 (R202). -/
def execCli (s : State) : Result := .next { s.advance 1 with p := { s.p with i := false } }

/-- CLV, opcode B8 (R203). -/
def execClv (s : State) : Result := .next { s.advance 1 with p := { s.p with v := false } }

/-- SEC, opcode 38 (R204). -/
def execSec (s : State) : Result := .next { s.advance 1 with p := { s.p with c := true } }

/-- SED, opcode F8 (R205). -/
def execSed (s : State) : Result := .next { s.advance 1 with p := { s.p with d := true } }

/-- SEI, opcode 78 (R206). -/
def execSei (s : State) : Result := .next { s.advance 1 with p := { s.p with i := true } }

/-- DEX, opcode CA (R207). -/
def execDex (s : State) : Result := .next ((s.advance 1).stepX (-1))

/-- DEY, opcode 88 (R208). -/
def execDey (s : State) : Result := .next ((s.advance 1).stepY (-1))

/-- INX, opcode E8 (R209). -/
def execInx (s : State) : Result := .next ((s.advance 1).stepX 1)

/-- INY, opcode C8 (R210). -/
def execIny (s : State) : Result := .next ((s.advance 1).stepY 1)

/-- NOP, opcode EA (R211). -/
def execNop (s : State) : Result := .next (s.advance 1)

end Sys2Proof.Machine
end

