-- ==== Sys2Proof/Machine/Jump.lean ====
section
/-! DEFINITION. Jumps, subroutine calls and returns: BRL JMP JML JSR JSL RTS RTL RTI (R270 to R279). -/

namespace Sys2Proof.Machine

open Sys2Proof

namespace State

/-- The program address of a long jump goes to PC and PBR (R271, R272). -/
def jumpLong (s : State) (a : Addr) : State := { s with pc := addrOff a, pbr := addrBank a }

/-- The table address of JSR `(a,x)` before X is added: its high byte is fetched after PCH and PCL are pushed (R72, Table 9
20b), so a pushed byte that lies over the instruction's third byte is what is fetched (log 13). -/
def lateOperand (s : State) (a : Word) : Word :=
  mkWord (((s.writeByte (mkAddr s.pbr (s.pc + 2)) (hiByte a)).pushNew16 (s.pc + 2)).readK (s.pc + 2)) (loByte a)

/-- JSR `(a,x)` (R72, R273): pushes the address of its last byte, fetches its high operand byte, then reads the pointer in
the program bank. -/
def jsrIndexed (s : State) (a : Word) : State :=
  let t := (s.pushNew16 (s.pc + 2)).endNew
  { t with pc := t.readWordK (s.lateOperand a + t.x) }

/-- JSL (R274): pushes PBR and the address of its last byte. -/
def callLong (s : State) (a : Addr) : State := ((s.pushNew8 s.pbr).pushNew16 (s.pc + 3)).endNew.jumpLong a

/-- RTS (R275). -/
def rts (s : State) : State := { s.pull16.2 with pc := s.pull16.1 + 1 }

/-- RTL (R276). -/
def rtl (s : State) : State :=
  let w := s.pullNew16
  let b := w.2.pullNew8
  { b.2.endNew with pc := w.1 + 1, pbr := b.1 }

end State

/-- BRL `rl`, opcode 82 (R270, operand R132). -/
def execBrl (r : Word) (s : State) : Result := .next { s with pc := s.pc + 3 + r }

/-- JMP `a`, opcode 4C (R271, operand R117). -/
def execJmpAbs (a : Word) (s : State) : Result := .next { s with pc := a }

/-- JMP `(a)`, opcode 6C (R271, operand R133). -/
def execJmpAbsInd (a : Word) (s : State) : Result := .next { s with pc := s.readWord0 a }

/-- JMP `(a,x)`, opcode 7C (R271, operand R131). -/
def execJmpAbsXInd (a : Word) (s : State) : Result := .next { s with pc := s.readWordK (a + s.x) }

/-- JMP `al`, opcode 5C (R271, operand R118). -/
def execJmpLong (a : Addr) (s : State) : Result := .next (s.jumpLong a)

/-- JML `(a)`, opcode DC (R272, operand R133). -/
def execJml (a : Word) (s : State) : Result := .next (s.jumpLong (s.readAddr0 a))

/-- JSR `a`, opcode 20 (R273, operand R117). -/
def execJsrAbs (a : Word) (s : State) : Result := .next { s.push16 (s.pc + 2) with pc := a }

/-- JSR `(a,x)`, opcode FC (R273, operand R131). -/
def execJsrAbsXInd (a : Word) (s : State) : Result := .next (s.jsrIndexed a)

/-- JSL `al`, opcode 22 (R274, operand R118). -/
def execJsl (a : Addr) (s : State) : Result := .next (s.callLong a)

/-- RTS, opcode 60 (R275). -/
def execRts (s : State) : Result := .next s.rts

/-- RTL, opcode 6B (R276). -/
def execRtl (s : State) : Result := .next s.rtl

/-- RTI, opcode 40 (R277). -/
def execRti (s : State) : Result := .next (s.advance 1).returnFromInterrupt

end Sys2Proof.Machine
end

