-- ==== Sys2Proof/Machine/LoadStore.lean ====
section
/-! DEFINITION. Load and store: LDA LDX LDY STA STX STY STZ (R150 to R158). Each meaning first moves PC past the
instruction (R29), then performs its rule. -/

namespace Sys2Proof.Machine

open Sys2Proof

namespace State

/-- LDA (R151): at 8 bits B keeps its value. -/
def lda (s : State) (src : Src) : State :=
  if s.m8 then (s.setA (s.operand8 src)).setNZ (s.operand8 src)
  else (s.setC (s.operand16 src)).setNZ (s.operand16 src)

/-- LDX (R152). -/
def ldx (s : State) (src : Src) : State :=
  if s.x8 then (s.setX8 (s.operand8 src)).setNZ (s.operand8 src)
  else { s with x := s.operand16 src }.setNZ (s.operand16 src)

/-- LDY (R153). -/
def ldy (s : State) (src : Src) : State :=
  if s.x8 then (s.setY8 (s.operand8 src)).setNZ (s.operand8 src)
  else { s with y := s.operand16 src }.setNZ (s.operand16 src)

/-- STA (R154): no flag is written. -/
def sta (s : State) (m : MemMode) : State :=
  if s.m8 then s.store8 (s.place m) s.a8 else s.store16 (s.place m) s.c

/-- STX (R155): no flag is written. -/
def stx (s : State) (m : MemMode) : State :=
  if s.x8 then s.store8 (s.place m) (loByte s.x) else s.store16 (s.place m) s.x

/-- STY (R156): no flag is written. -/
def sty (s : State) (m : MemMode) : State :=
  if s.x8 then s.store8 (s.place m) (loByte s.y) else s.store16 (s.place m) s.y

/-- STZ (R157): no flag is written. -/
def stz (s : State) (m : MemMode) : State :=
  if s.m8 then s.store8 (s.place m) 0 else s.store16 (s.place m) 0

end State

/-- LDA `(d,x)`, opcode A1 (R151, operand R126). -/
def execLdaDirXInd (o : Byte) (s : State) : Result := .next ((s.advance 2).lda (.mem (.dirXInd o)))

/-- LDA `d,s`, opcode A3 (R151, operand R135). -/
def execLdaStkRel (o : Byte) (s : State) : Result := .next ((s.advance 2).lda (.mem (.stkRel o)))

/-- LDA `d`, opcode A5 (R151, operand R122). -/
def execLdaDir (o : Byte) (s : State) : Result := .next ((s.advance 2).lda (.mem (.dir o)))

/-- LDA `[d]`, opcode A7 (R151, operand R128). -/
def execLdaDirIndLong (o : Byte) (s : State) : Result := .next ((s.advance 2).lda (.mem (.dirIndLong o)))

/-- LDA `#`, opcode A9 (R151, operand R114). -/
def execLdaImm (v : Imm) (s : State) : Result := .next ((s.advance (1 + v.bytes)).lda (.imm v))

/-- LDA `a`, opcode AD (R151, operand R117). -/
def execLdaAbs (a : Word) (s : State) : Result := .next ((s.advance 3).lda (.mem (.abs a)))

/-- LDA `al`, opcode AF (R151, operand R118). -/
def execLdaLong (a : Addr) (s : State) : Result := .next ((s.advance 4).lda (.mem (.long a)))

/-- LDA `(d),y`, opcode B1 (R151, operand R127). -/
def execLdaDirIndY (o : Byte) (s : State) : Result := .next ((s.advance 2).lda (.mem (.dirIndY o)))

/-- LDA `(d)`, opcode B2 (R151, operand R125). -/
def execLdaDirInd (o : Byte) (s : State) : Result := .next ((s.advance 2).lda (.mem (.dirInd o)))

/-- LDA `(d,s),y`, opcode B3 (R151, operand R136). -/
def execLdaStkRelIndY (o : Byte) (s : State) : Result := .next ((s.advance 2).lda (.mem (.stkRelIndY o)))

/-- LDA `d,x`, opcode B5 (R151, operand R123). -/
def execLdaDirX (o : Byte) (s : State) : Result := .next ((s.advance 2).lda (.mem (.dirX o)))

/-- LDA `[d],y`, opcode B7 (R151, operand R129). -/
def execLdaDirIndLongY (o : Byte) (s : State) : Result := .next ((s.advance 2).lda (.mem (.dirIndLongY o)))

/-- LDA `a,y`, opcode B9 (R151, operand R120). -/
def execLdaAbsY (a : Word) (s : State) : Result := .next ((s.advance 3).lda (.mem (.absY a)))

/-- LDA `a,x`, opcode BD (R151, operand R119). -/
def execLdaAbsX (a : Word) (s : State) : Result := .next ((s.advance 3).lda (.mem (.absX a)))

/-- LDA `al,x`, opcode BF (R151, operand R121). -/
def execLdaLongX (a : Addr) (s : State) : Result := .next ((s.advance 4).lda (.mem (.longX a)))

/-- LDX `#`, opcode A2 (R152, operand R114). -/
def execLdxImm (v : Imm) (s : State) : Result := .next ((s.advance (1 + v.bytes)).ldx (.imm v))

/-- LDX `d`, opcode A6 (R152, operand R122). -/
def execLdxDir (o : Byte) (s : State) : Result := .next ((s.advance 2).ldx (.mem (.dir o)))

/-- LDX `a`, opcode AE (R152, operand R117). -/
def execLdxAbs (a : Word) (s : State) : Result := .next ((s.advance 3).ldx (.mem (.abs a)))

/-- LDX `d,y`, opcode B6 (R152, operand R124). -/
def execLdxDirY (o : Byte) (s : State) : Result := .next ((s.advance 2).ldx (.mem (.dirY o)))

/-- LDX `a,y`, opcode BE (R152, operand R120). -/
def execLdxAbsY (a : Word) (s : State) : Result := .next ((s.advance 3).ldx (.mem (.absY a)))

/-- LDY `#`, opcode A0 (R153, operand R114). -/
def execLdyImm (v : Imm) (s : State) : Result := .next ((s.advance (1 + v.bytes)).ldy (.imm v))

/-- LDY `d`, opcode A4 (R153, operand R122). -/
def execLdyDir (o : Byte) (s : State) : Result := .next ((s.advance 2).ldy (.mem (.dir o)))

/-- LDY `a`, opcode AC (R153, operand R117). -/
def execLdyAbs (a : Word) (s : State) : Result := .next ((s.advance 3).ldy (.mem (.abs a)))

/-- LDY `d,x`, opcode B4 (R153, operand R123). -/
def execLdyDirX (o : Byte) (s : State) : Result := .next ((s.advance 2).ldy (.mem (.dirX o)))

/-- LDY `a,x`, opcode BC (R153, operand R119). -/
def execLdyAbsX (a : Word) (s : State) : Result := .next ((s.advance 3).ldy (.mem (.absX a)))

/-- STA `(d,x)`, opcode 81 (R154, operand R126). -/
def execStaDirXInd (o : Byte) (s : State) : Result := .next ((s.advance 2).sta (.dirXInd o))

/-- STA `d,s`, opcode 83 (R154, operand R135). -/
def execStaStkRel (o : Byte) (s : State) : Result := .next ((s.advance 2).sta (.stkRel o))

/-- STA `d`, opcode 85 (R154, operand R122). -/
def execStaDir (o : Byte) (s : State) : Result := .next ((s.advance 2).sta (.dir o))

/-- STA `[d]`, opcode 87 (R154, operand R128). -/
def execStaDirIndLong (o : Byte) (s : State) : Result := .next ((s.advance 2).sta (.dirIndLong o))

/-- STA `a`, opcode 8D (R154, operand R117). -/
def execStaAbs (a : Word) (s : State) : Result := .next ((s.advance 3).sta (.abs a))

/-- STA `al`, opcode 8F (R154, operand R118). -/
def execStaLong (a : Addr) (s : State) : Result := .next ((s.advance 4).sta (.long a))

/-- STA `(d),y`, opcode 91 (R154, operand R127). -/
def execStaDirIndY (o : Byte) (s : State) : Result := .next ((s.advance 2).sta (.dirIndY o))

/-- STA `(d)`, opcode 92 (R154, operand R125). -/
def execStaDirInd (o : Byte) (s : State) : Result := .next ((s.advance 2).sta (.dirInd o))

/-- STA `(d,s),y`, opcode 93 (R154, operand R136). -/
def execStaStkRelIndY (o : Byte) (s : State) : Result := .next ((s.advance 2).sta (.stkRelIndY o))

/-- STA `d,x`, opcode 95 (R154, operand R123). -/
def execStaDirX (o : Byte) (s : State) : Result := .next ((s.advance 2).sta (.dirX o))

/-- STA `[d],y`, opcode 97 (R154, operand R129). -/
def execStaDirIndLongY (o : Byte) (s : State) : Result := .next ((s.advance 2).sta (.dirIndLongY o))

/-- STA `a,y`, opcode 99 (R154, operand R120). -/
def execStaAbsY (a : Word) (s : State) : Result := .next ((s.advance 3).sta (.absY a))

/-- STA `a,x`, opcode 9D (R154, operand R119). -/
def execStaAbsX (a : Word) (s : State) : Result := .next ((s.advance 3).sta (.absX a))

/-- STA `al,x`, opcode 9F (R154, operand R121). -/
def execStaLongX (a : Addr) (s : State) : Result := .next ((s.advance 4).sta (.longX a))

/-- STX `d`, opcode 86 (R155, operand R122). -/
def execStxDir (o : Byte) (s : State) : Result := .next ((s.advance 2).stx (.dir o))

/-- STX `a`, opcode 8E (R155, operand R117). -/
def execStxAbs (a : Word) (s : State) : Result := .next ((s.advance 3).stx (.abs a))

/-- STX `d,y`, opcode 96 (R155, operand R124). -/
def execStxDirY (o : Byte) (s : State) : Result := .next ((s.advance 2).stx (.dirY o))

/-- STY `d`, opcode 84 (R156, operand R122). -/
def execStyDir (o : Byte) (s : State) : Result := .next ((s.advance 2).sty (.dir o))

/-- STY `a`, opcode 8C (R156, operand R117). -/
def execStyAbs (a : Word) (s : State) : Result := .next ((s.advance 3).sty (.abs a))

/-- STY `d,x`, opcode 94 (R156, operand R123). -/
def execStyDirX (o : Byte) (s : State) : Result := .next ((s.advance 2).sty (.dirX o))

/-- STZ `d`, opcode 64 (R157, operand R122). -/
def execStzDir (o : Byte) (s : State) : Result := .next ((s.advance 2).stz (.dir o))

/-- STZ `d,x`, opcode 74 (R157, operand R123). -/
def execStzDirX (o : Byte) (s : State) : Result := .next ((s.advance 2).stz (.dirX o))

/-- STZ `a`, opcode 9C (R157, operand R117). -/
def execStzAbs (a : Word) (s : State) : Result := .next ((s.advance 3).stz (.abs a))

/-- STZ `a,x`, opcode 9E (R157, operand R119). -/
def execStzAbsX (a : Word) (s : State) : Result := .next ((s.advance 3).stz (.absX a))

end Sys2Proof.Machine
end

