-- ==== Sys2Proof/Machine/ShiftRmw.lean ====
section
/-! DEFINITION. Shift, rotate, increment, decrement, test-and-modify: ASL LSR ROL ROR INC DEC TRB TSB (R180 to R189), each
a function of Flags.lean in the frame of R180. -/

namespace Sys2Proof.Machine

open Sys2Proof

/-- ASL `d`, opcode 06 (R181, operand R122). -/
def execAslDir (o : Byte) (s : State) : Result := .next ((s.advance 2).modifyMem aslFn (.dir o))

/-- ASL `A`, opcode 0A (R181, operand R115). -/
def execAslAcc (s : State) : Result := .next ((s.advance 1).modifyAcc aslFn)

/-- ASL `a`, opcode 0E (R181, operand R117). -/
def execAslAbs (a : Word) (s : State) : Result := .next ((s.advance 3).modifyMem aslFn (.abs a))

/-- ASL `d,x`, opcode 16 (R181, operand R123). -/
def execAslDirX (o : Byte) (s : State) : Result := .next ((s.advance 2).modifyMem aslFn (.dirX o))

/-- ASL `a,x`, opcode 1E (R181, operand R119). -/
def execAslAbsX (a : Word) (s : State) : Result := .next ((s.advance 3).modifyMem aslFn (.absX a))

/-- LSR `d`, opcode 46 (R182, operand R122). -/
def execLsrDir (o : Byte) (s : State) : Result := .next ((s.advance 2).modifyMem lsrFn (.dir o))

/-- LSR `A`, opcode 4A (R182, operand R115). -/
def execLsrAcc (s : State) : Result := .next ((s.advance 1).modifyAcc lsrFn)

/-- LSR `a`, opcode 4E (R182, operand R117). -/
def execLsrAbs (a : Word) (s : State) : Result := .next ((s.advance 3).modifyMem lsrFn (.abs a))

/-- LSR `d,x`, opcode 56 (R182, operand R123). -/
def execLsrDirX (o : Byte) (s : State) : Result := .next ((s.advance 2).modifyMem lsrFn (.dirX o))

/-- LSR `a,x`, opcode 5E (R182, operand R119). -/
def execLsrAbsX (a : Word) (s : State) : Result := .next ((s.advance 3).modifyMem lsrFn (.absX a))

/-- ROL `d`, opcode 26 (R183, operand R122). -/
def execRolDir (o : Byte) (s : State) : Result := .next ((s.advance 2).modifyMem rolFn (.dir o))

/-- ROL `A`, opcode 2A (R183, operand R115). -/
def execRolAcc (s : State) : Result := .next ((s.advance 1).modifyAcc rolFn)

/-- ROL `a`, opcode 2E (R183, operand R117). -/
def execRolAbs (a : Word) (s : State) : Result := .next ((s.advance 3).modifyMem rolFn (.abs a))

/-- ROL `d,x`, opcode 36 (R183, operand R123). -/
def execRolDirX (o : Byte) (s : State) : Result := .next ((s.advance 2).modifyMem rolFn (.dirX o))

/-- ROL `a,x`, opcode 3E (R183, operand R119). -/
def execRolAbsX (a : Word) (s : State) : Result := .next ((s.advance 3).modifyMem rolFn (.absX a))

/-- ROR `d`, opcode 66 (R184, operand R122). -/
def execRorDir (o : Byte) (s : State) : Result := .next ((s.advance 2).modifyMem rorFn (.dir o))

/-- ROR `A`, opcode 6A (R184, operand R115). -/
def execRorAcc (s : State) : Result := .next ((s.advance 1).modifyAcc rorFn)

/-- ROR `a`, opcode 6E (R184, operand R117). -/
def execRorAbs (a : Word) (s : State) : Result := .next ((s.advance 3).modifyMem rorFn (.abs a))

/-- ROR `d,x`, opcode 76 (R184, operand R123). -/
def execRorDirX (o : Byte) (s : State) : Result := .next ((s.advance 2).modifyMem rorFn (.dirX o))

/-- ROR `a,x`, opcode 7E (R184, operand R119). -/
def execRorAbsX (a : Word) (s : State) : Result := .next ((s.advance 3).modifyMem rorFn (.absX a))

/-- INC `A`, opcode 1A (R185, operand R115). -/
def execIncAcc (s : State) : Result := .next ((s.advance 1).modifyAcc incFn)

/-- INC `d`, opcode E6 (R185, operand R122). -/
def execIncDir (o : Byte) (s : State) : Result := .next ((s.advance 2).modifyMem incFn (.dir o))

/-- INC `a`, opcode EE (R185, operand R117). -/
def execIncAbs (a : Word) (s : State) : Result := .next ((s.advance 3).modifyMem incFn (.abs a))

/-- INC `d,x`, opcode F6 (R185, operand R123). -/
def execIncDirX (o : Byte) (s : State) : Result := .next ((s.advance 2).modifyMem incFn (.dirX o))

/-- INC `a,x`, opcode FE (R185, operand R119). -/
def execIncAbsX (a : Word) (s : State) : Result := .next ((s.advance 3).modifyMem incFn (.absX a))

/-- DEC `A`, opcode 3A (R186, operand R115). -/
def execDecAcc (s : State) : Result := .next ((s.advance 1).modifyAcc decFn)

/-- DEC `d`, opcode C6 (R186, operand R122). -/
def execDecDir (o : Byte) (s : State) : Result := .next ((s.advance 2).modifyMem decFn (.dir o))

/-- DEC `a`, opcode CE (R186, operand R117). -/
def execDecAbs (a : Word) (s : State) : Result := .next ((s.advance 3).modifyMem decFn (.abs a))

/-- DEC `d,x`, opcode D6 (R186, operand R123). -/
def execDecDirX (o : Byte) (s : State) : Result := .next ((s.advance 2).modifyMem decFn (.dirX o))

/-- DEC `a,x`, opcode DE (R186, operand R119). -/
def execDecAbsX (a : Word) (s : State) : Result := .next ((s.advance 3).modifyMem decFn (.absX a))

/-- TRB `d`, opcode 14 (R187, operand R122). -/
def execTrbDir (o : Byte) (s : State) : Result := .next ((s.advance 2).modifyMem trbFn (.dir o))

/-- TRB `a`, opcode 1C (R187, operand R117). -/
def execTrbAbs (a : Word) (s : State) : Result := .next ((s.advance 3).modifyMem trbFn (.abs a))

/-- TSB `d`, opcode 04 (R188, operand R122). -/
def execTsbDir (o : Byte) (s : State) : Result := .next ((s.advance 2).modifyMem tsbFn (.dir o))

/-- TSB `a`, opcode 0C (R188, operand R117). -/
def execTsbAbs (a : Word) (s : State) : Result := .next ((s.advance 3).modifyMem tsbFn (.abs a))

end Sys2Proof.Machine
end

