-- ==== Sys2Proof/Machine/Stack.lean ====
section
/-! DEFINITION. Stack instructions: PEA PEI PER PHA PHB PHD PHK PHP PHX PHY PLA PLB PLD PLP PLX PLY (R220 to R240). -/

namespace Sys2Proof.Machine

open Sys2Proof

namespace State

/-- PHA (R227). -/
def pushA (s : State) : State := if s.m8 then s.push8 s.a8 else s.push16 s.c

/-- PHX and PHY (R232, R233): the index register `v` at the index width. -/
def pushIndex (s : State) (v : Word) : State := if s.x8 then s.push8 (loByte v) else s.push16 v

/-- PLA (R234): at 8 bits B keeps its value. -/
def pla (s : State) : State :=
  if s.m8 then (s.pull8.2.setA s.pull8.1).setNZ s.pull8.1
  else (s.pull16.2.setC s.pull16.1).setNZ s.pull16.1

/-- PLB (R235). -/
def plb (s : State) : State := { s.pull8.2 with dbr := s.pull8.1 }.setNZ s.pull8.1

/-- PLD (R236): always 16 bits, a `New` variant (R222). -/
def pld (s : State) : State := ({ s.pullNew16.2 with d := s.pullNew16.1 }.setNZ s.pullNew16.1).endNew

/-- PLP (R237). -/
def plp (s : State) : State := s.pull8.2.loadP s.pull8.1

/-- PLX (R238). -/
def plx (s : State) : State :=
  if s.x8 then (s.pull8.2.setX8 s.pull8.1).setNZ s.pull8.1
  else { s.pull16.2 with x := s.pull16.1 }.setNZ s.pull16.1

/-- PLY (R239). -/
def ply (s : State) : State :=
  if s.x8 then (s.pull8.2.setY8 s.pull8.1).setNZ s.pull8.1
  else { s.pull16.2 with y := s.pull16.1 }.setNZ s.pull16.1

end State

/-- PEA, opcode F4 (R224). -/
def execPea (v : Word) (s : State) : Result := .next (((s.advance 3).pushNew16 v).endNew)

/-- PEI, opcode D4 (R225). -/
def execPei (o : Byte) (s : State) : Result := .next (((s.advance 2).pushNew16 (s.readWord0 (s.dirAddr o))).endNew)

/-- PER, opcode 62 (R226). -/
def execPer (r : Word) (s : State) : Result := .next (((s.advance 3).pushNew16 (s.pc + 3 + r)).endNew)

/-- PHA, opcode 48 (R227). -/
def execPha (s : State) : Result := .next ((s.advance 1).pushA)

/-- PHB, opcode 8B (R228). -/
def execPhb (s : State) : Result := .next ((s.advance 1).push8 s.dbr)

/-- PHD, opcode 0B (R229). -/
def execPhd (s : State) : Result := .next (((s.advance 1).pushNew16 s.d).endNew)

/-- PHK, opcode 4B (R230). -/
def execPhk (s : State) : Result := .next ((s.advance 1).push8 s.pbr)

/-- PHP, opcode 08 (R231). -/
def execPhp (s : State) : Result := .next ((s.advance 1).push8 (s.p.toByte s.e true))

/-- PHX, opcode DA (R232). -/
def execPhx (s : State) : Result := .next ((s.advance 1).pushIndex s.x)

/-- PHY, opcode 5A (R233). -/
def execPhy (s : State) : Result := .next ((s.advance 1).pushIndex s.y)

/-- PLA, opcode 68 (R234). -/
def execPla (s : State) : Result := .next ((s.advance 1).pla)

/-- PLB, opcode AB (R235). -/
def execPlb (s : State) : Result := .next ((s.advance 1).plb)

/-- PLD, opcode 2B (R236). -/
def execPld (s : State) : Result := .next ((s.advance 1).pld)

/-- PLP, opcode 28 (R237). -/
def execPlp (s : State) : Result := .next ((s.advance 1).plp)

/-- PLX, opcode FA (R238). -/
def execPlx (s : State) : Result := .next ((s.advance 1).plx)

/-- PLY, opcode 7A (R239). -/
def execPly (s : State) : Result := .next ((s.advance 1).ply)

end Sys2Proof.Machine
end

