-- ==== Sys2Proof/Machine/System.lean ====
section
/-! DEFINITION. Software interrupts, block moves, status bits, STP, WAI, XBA and the reserved opcode 42 (R290 to R301). -/

namespace Sys2Proof.Machine

open Sys2Proof

namespace State

/-- One pass of a block move (R294): loads DBR, moves one byte, steps X and Y at the index width, counts C down, and sets PC
back to the opcode unless the byte was the last. -/
def blockStep (s : State) (delta : Int) (dst src : Byte) : State :=
  let t := { s with dbr := dst }.writeByte (mkAddr dst s.y) (s.readByte (mkAddr src s.x))
  let u :=
    if s.x8 then (t.setX8 (loByte s.x + BitVec.ofInt 8 delta)).setY8 (loByte s.y + BitVec.ofInt 8 delta)
    else { t with x := s.x + BitVec.ofInt 16 delta, y := s.y + BitVec.ofInt 16 delta }
  { u with c := s.c - 1, pc := if s.c - 1 = 0xFFFF then s.pc + 3 else s.pc }

/-- REP (R295). -/
def rep (s : State) (mask : Byte) : State := { s with p := s.p.clearBits s.e mask }

/-- SEP (R296): XH and YH become 00 when X is 1 afterwards in Native mode. -/
def sep (s : State) (mask : Byte) : State := { s with p := s.p.setBits s.e mask }.truncateIndex

/-- XBA (R298): exchanges A and B; N and Z from the new A, 8 bits in every mode. -/
def xba (s : State) : State := (s.setC (mkWord (loByte s.c) (hiByte s.c))).setNZ (hiByte s.c)

end State

/-- BRK, opcode 00 (R290). -/
def execBrk (_sig : Byte) (s : State) : Result := .next ((s.advance 2).takeInterrupt .brk (s.pc + 2))

/-- COP, opcode 02 (R291). -/
def execCop (_sig : Byte) (s : State) : Result := .next ((s.advance 2).takeInterrupt .cop (s.pc + 2))

/-- MVN `x,y`, opcode 54 (R292, operand R137). -/
def execMvn (dst : Byte) (src : Byte) (s : State) : Result := .next (s.blockStep 1 dst src)

/-- MVP `x,y`, opcode 44 (R293, operand R137). -/
def execMvp (dst : Byte) (src : Byte) (s : State) : Result := .next (s.blockStep (-1) dst src)

/-- REP `#`, opcode C2 (R295, operand R114). -/
def execRep (mask : Byte) (s : State) : Result := .next ((s.advance 2).rep mask)

/-- SEP `#`, opcode E2 (R296, operand R114). -/
def execSep (mask : Byte) (s : State) : Result := .next ((s.advance 2).sep mask)

/-- STP, opcode DB (R297). -/
def execStp (s : State) : Result := .next { s.advance 1 with stopped := true }

/-- WAI, opcode CB (R299). -/
def execWai (s : State) : Result := .next { s.advance 1 with waiting := true }

/-- XBA, opcode EB (R298). -/
def execXba (s : State) : Result := .next ((s.advance 1).xba)

/-- The reserved opcode 42: a two-byte no-operation (R300). -/
def execReserved42 (_op8 : Byte) (s : State) : Result := .next (s.advance 2)

end Sys2Proof.Machine
end

