-- ==== Sys2Proof/Machine/Transfer.lean ====
section
/-! DEFINITION. Register transfers and XCE (R250 to R264): the width of a transfer is the width of its destination. -/

namespace Sys2Proof.Machine

open Sys2Proof

namespace State

/-- A transfer to X (R251, R257, R263). -/
def toX (s : State) (v : Word) : State :=
  if s.x8 then (s.setX8 (loByte v)).setNZ (loByte v) else { s with x := v }.setNZ v

/-- A transfer to Y (R252, R260). -/
def toY (s : State) (v : Word) : State :=
  if s.x8 then (s.setY8 (loByte v)).setNZ (loByte v) else { s with y := v }.setNZ v

/-- A transfer to the accumulator at its width (R258, R261). -/
def toAcc (s : State) (v : Word) : State :=
  if s.m8 then (s.setA (loByte v)).setNZ (loByte v) else (s.setC v).setNZ v

/-- TCD (R253): always 16 bits. -/
def tcd (s : State) : State := { s with d := s.c }.setNZ s.c

/-- TDC (R255): always 16 bits. -/
def tdc (s : State) : State := (s.setC s.d).setNZ s.d

/-- TSC (R256): always 16 bits. -/
def tsc (s : State) : State := (s.setC s.sp).setNZ s.sp

/-- TCS and TXS (R254, R259): in Emulation mode SL alone moves and SH is 01; no flag is written. -/
def toSp (s : State) (v : Word) : State :=
  if s.e then { s with sp := mkWord 0x01 (loByte v) } else { s with sp := v }

/-- The values XCE locks when E becomes 1 (R262). -/
def lockEmulation (s : State) : State :=
  { s with
    p := { s.p with m := true, x := true }
    x := zext16 (loByte s.x)
    y := zext16 (loByte s.y)
    sp := mkWord 0x01 (loByte s.sp) }

/-- XCE (R262): exchanges C and E, and locks M, X, XH, YH and SH when E becomes 1. -/
def xce (s : State) : State :=
  let t := { s with e := s.p.c, p := { s.p with c := s.e } }
  if t.e then t.lockEmulation else t

end State

/-- TAX, opcode AA (R251). -/
def execTax (s : State) : Result := .next ((s.advance 1).toX s.c)

/-- TAY, opcode A8 (R252). -/
def execTay (s : State) : Result := .next ((s.advance 1).toY s.c)

/-- TXA, opcode 8A (R258). -/
def execTxa (s : State) : Result := .next ((s.advance 1).toAcc s.x)

/-- TYA, opcode 98 (R261). -/
def execTya (s : State) : Result := .next ((s.advance 1).toAcc s.y)

/-- TXY, opcode 9B (R260). -/
def execTxy (s : State) : Result := .next ((s.advance 1).toY s.x)

/-- TYX, opcode BB (R263). -/
def execTyx (s : State) : Result := .next ((s.advance 1).toX s.y)

/-- TCD, opcode 5B (R253). -/
def execTcd (s : State) : Result := .next ((s.advance 1).tcd)

/-- TDC, opcode 7B (R255). -/
def execTdc (s : State) : Result := .next ((s.advance 1).tdc)

/-- TCS, opcode 1B (R254). -/
def execTcs (s : State) : Result := .next ((s.advance 1).toSp s.c)

/-- TSC, opcode 3B (R256). -/
def execTsc (s : State) : Result := .next ((s.advance 1).tsc)

/-- TSX, opcode BA (R257). -/
def execTsx (s : State) : Result := .next ((s.advance 1).toX s.sp)

/-- TXS, opcode 9A (R259). -/
def execTxs (s : State) : Result := .next ((s.advance 1).toSp s.x)

/-- XCE, opcode FB (R262). -/
def execXce (s : State) : Result := .next ((s.advance 1).xce)

end Sys2Proof.Machine
end

