-- ==== Sys2Proof/Machine/Dispatch.lean ====
section
/-! DEFINITION. The meaning of each instruction, one arm per constructor of Instr (R97). -/

namespace Sys2Proof.Machine

def exec (i : Instr) (s : State) : Host.Outcome State Fault Refusal :=
  match i with
  | .brk sig => Sys2Proof.Machine.execBrk sig s
  | .oraDirXInd o => Sys2Proof.Machine.execOraDirXInd o s
  | .cop sig => Sys2Proof.Machine.execCop sig s
  | .oraStkRel o => Sys2Proof.Machine.execOraStkRel o s
  | .tsbDir o => Sys2Proof.Machine.execTsbDir o s
  | .oraDir o => Sys2Proof.Machine.execOraDir o s
  | .aslDir o => Sys2Proof.Machine.execAslDir o s
  | .oraDirIndLong o => Sys2Proof.Machine.execOraDirIndLong o s
  | .oraImm v => Sys2Proof.Machine.execOraImm v s
  | .tsbAbs a => Sys2Proof.Machine.execTsbAbs a s
  | .oraAbs a => Sys2Proof.Machine.execOraAbs a s
  | .aslAbs a => Sys2Proof.Machine.execAslAbs a s
  | .oraLong a => Sys2Proof.Machine.execOraLong a s
  | .bpl r => Sys2Proof.Machine.execBpl r s
  | .oraDirIndY o => Sys2Proof.Machine.execOraDirIndY o s
  | .oraDirInd o => Sys2Proof.Machine.execOraDirInd o s
  | .oraStkRelIndY o => Sys2Proof.Machine.execOraStkRelIndY o s
  | .trbDir o => Sys2Proof.Machine.execTrbDir o s
  | .oraDirX o => Sys2Proof.Machine.execOraDirX o s
  | .aslDirX o => Sys2Proof.Machine.execAslDirX o s
  | .oraDirIndLongY o => Sys2Proof.Machine.execOraDirIndLongY o s
  | .oraAbsY a => Sys2Proof.Machine.execOraAbsY a s
  | .trbAbs a => Sys2Proof.Machine.execTrbAbs a s
  | .oraAbsX a => Sys2Proof.Machine.execOraAbsX a s
  | .aslAbsX a => Sys2Proof.Machine.execAslAbsX a s
  | .oraLongX a => Sys2Proof.Machine.execOraLongX a s
  | .jsrAbs a => Sys2Proof.Machine.execJsrAbs a s
  | .andDirXInd o => Sys2Proof.Machine.execAndDirXInd o s
  | .jsl a => Sys2Proof.Machine.execJsl a s
  | .andStkRel o => Sys2Proof.Machine.execAndStkRel o s
  | .bitDir o => Sys2Proof.Machine.execBitDir o s
  | .andDir o => Sys2Proof.Machine.execAndDir o s
  | .rolDir o => Sys2Proof.Machine.execRolDir o s
  | .andDirIndLong o => Sys2Proof.Machine.execAndDirIndLong o s
  | .andImm v => Sys2Proof.Machine.execAndImm v s
  | .bitAbs a => Sys2Proof.Machine.execBitAbs a s
  | .andAbs a => Sys2Proof.Machine.execAndAbs a s
  | .rolAbs a => Sys2Proof.Machine.execRolAbs a s
  | .andLong a => Sys2Proof.Machine.execAndLong a s
  | .bmi r => Sys2Proof.Machine.execBmi r s
  | .andDirIndY o => Sys2Proof.Machine.execAndDirIndY o s
  | .andDirInd o => Sys2Proof.Machine.execAndDirInd o s
  | .andStkRelIndY o => Sys2Proof.Machine.execAndStkRelIndY o s
  | .bitDirX o => Sys2Proof.Machine.execBitDirX o s
  | .andDirX o => Sys2Proof.Machine.execAndDirX o s
  | .rolDirX o => Sys2Proof.Machine.execRolDirX o s
  | .andDirIndLongY o => Sys2Proof.Machine.execAndDirIndLongY o s
  | .andAbsY a => Sys2Proof.Machine.execAndAbsY a s
  | .bitAbsX a => Sys2Proof.Machine.execBitAbsX a s
  | .andAbsX a => Sys2Proof.Machine.execAndAbsX a s
  | .rolAbsX a => Sys2Proof.Machine.execRolAbsX a s
  | .andLongX a => Sys2Proof.Machine.execAndLongX a s
  | .eorDirXInd o => Sys2Proof.Machine.execEorDirXInd o s
  | .reserved42 op8 => Sys2Proof.Machine.execReserved42 op8 s
  | .eorStkRel o => Sys2Proof.Machine.execEorStkRel o s
  | .mvp dst src => Sys2Proof.Machine.execMvp dst src s
  | .eorDir o => Sys2Proof.Machine.execEorDir o s
  | .lsrDir o => Sys2Proof.Machine.execLsrDir o s
  | .eorDirIndLong o => Sys2Proof.Machine.execEorDirIndLong o s
  | .eorImm v => Sys2Proof.Machine.execEorImm v s
  | .jmpAbs a => Sys2Proof.Machine.execJmpAbs a s
  | .eorAbs a => Sys2Proof.Machine.execEorAbs a s
  | .lsrAbs a => Sys2Proof.Machine.execLsrAbs a s
  | .eorLong a => Sys2Proof.Machine.execEorLong a s
  | .bvc r => Sys2Proof.Machine.execBvc r s
  | .eorDirIndY o => Sys2Proof.Machine.execEorDirIndY o s
  | .eorDirInd o => Sys2Proof.Machine.execEorDirInd o s
  | .eorStkRelIndY o => Sys2Proof.Machine.execEorStkRelIndY o s
  | .mvn dst src => Sys2Proof.Machine.execMvn dst src s
  | .eorDirX o => Sys2Proof.Machine.execEorDirX o s
  | .lsrDirX o => Sys2Proof.Machine.execLsrDirX o s
  | .eorDirIndLongY o => Sys2Proof.Machine.execEorDirIndLongY o s
  | .eorAbsY a => Sys2Proof.Machine.execEorAbsY a s
  | .jmpLong a => Sys2Proof.Machine.execJmpLong a s
  | .eorAbsX a => Sys2Proof.Machine.execEorAbsX a s
  | .lsrAbsX a => Sys2Proof.Machine.execLsrAbsX a s
  | .eorLongX a => Sys2Proof.Machine.execEorLongX a s
  | .adcDirXInd o => Sys2Proof.Machine.execAdcDirXInd o s
  | .per r => Sys2Proof.Machine.execPer r s
  | .adcStkRel o => Sys2Proof.Machine.execAdcStkRel o s
  | .stzDir o => Sys2Proof.Machine.execStzDir o s
  | .adcDir o => Sys2Proof.Machine.execAdcDir o s
  | .rorDir o => Sys2Proof.Machine.execRorDir o s
  | .adcDirIndLong o => Sys2Proof.Machine.execAdcDirIndLong o s
  | .adcImm v => Sys2Proof.Machine.execAdcImm v s
  | .jmpAbsInd a => Sys2Proof.Machine.execJmpAbsInd a s
  | .adcAbs a => Sys2Proof.Machine.execAdcAbs a s
  | .rorAbs a => Sys2Proof.Machine.execRorAbs a s
  | .adcLong a => Sys2Proof.Machine.execAdcLong a s
  | .bvs r => Sys2Proof.Machine.execBvs r s
  | .adcDirIndY o => Sys2Proof.Machine.execAdcDirIndY o s
  | .adcDirInd o => Sys2Proof.Machine.execAdcDirInd o s
  | .adcStkRelIndY o => Sys2Proof.Machine.execAdcStkRelIndY o s
  | .stzDirX o => Sys2Proof.Machine.execStzDirX o s
  | .adcDirX o => Sys2Proof.Machine.execAdcDirX o s
  | .rorDirX o => Sys2Proof.Machine.execRorDirX o s
  | .adcDirIndLongY o => Sys2Proof.Machine.execAdcDirIndLongY o s
  | .adcAbsY a => Sys2Proof.Machine.execAdcAbsY a s
  | .jmpAbsXInd a => Sys2Proof.Machine.execJmpAbsXInd a s
  | .adcAbsX a => Sys2Proof.Machine.execAdcAbsX a s
  | .rorAbsX a => Sys2Proof.Machine.execRorAbsX a s
  | .adcLongX a => Sys2Proof.Machine.execAdcLongX a s
  | .bra r => Sys2Proof.Machine.execBra r s
  | .staDirXInd o => Sys2Proof.Machine.execStaDirXInd o s
  | .brl r => Sys2Proof.Machine.execBrl r s
  | .staStkRel o => Sys2Proof.Machine.execStaStkRel o s
  | .styDir o => Sys2Proof.Machine.execStyDir o s
  | .staDir o => Sys2Proof.Machine.execStaDir o s
  | .stxDir o => Sys2Proof.Machine.execStxDir o s
  | .staDirIndLong o => Sys2Proof.Machine.execStaDirIndLong o s
  | .bitImm v => Sys2Proof.Machine.execBitImm v s
  | .styAbs a => Sys2Proof.Machine.execStyAbs a s
  | .staAbs a => Sys2Proof.Machine.execStaAbs a s
  | .stxAbs a => Sys2Proof.Machine.execStxAbs a s
  | .staLong a => Sys2Proof.Machine.execStaLong a s
  | .bcc r => Sys2Proof.Machine.execBcc r s
  | .staDirIndY o => Sys2Proof.Machine.execStaDirIndY o s
  | .staDirInd o => Sys2Proof.Machine.execStaDirInd o s
  | .staStkRelIndY o => Sys2Proof.Machine.execStaStkRelIndY o s
  | .styDirX o => Sys2Proof.Machine.execStyDirX o s
  | .staDirX o => Sys2Proof.Machine.execStaDirX o s
  | .stxDirY o => Sys2Proof.Machine.execStxDirY o s
  | .staDirIndLongY o => Sys2Proof.Machine.execStaDirIndLongY o s
  | .staAbsY a => Sys2Proof.Machine.execStaAbsY a s
  | .stzAbs a => Sys2Proof.Machine.execStzAbs a s
  | .staAbsX a => Sys2Proof.Machine.execStaAbsX a s
  | .stzAbsX a => Sys2Proof.Machine.execStzAbsX a s
  | .staLongX a => Sys2Proof.Machine.execStaLongX a s
  | .ldyImm v => Sys2Proof.Machine.execLdyImm v s
  | .ldaDirXInd o => Sys2Proof.Machine.execLdaDirXInd o s
  | .ldxImm v => Sys2Proof.Machine.execLdxImm v s
  | .ldaStkRel o => Sys2Proof.Machine.execLdaStkRel o s
  | .ldyDir o => Sys2Proof.Machine.execLdyDir o s
  | .ldaDir o => Sys2Proof.Machine.execLdaDir o s
  | .ldxDir o => Sys2Proof.Machine.execLdxDir o s
  | .ldaDirIndLong o => Sys2Proof.Machine.execLdaDirIndLong o s
  | .ldaImm v => Sys2Proof.Machine.execLdaImm v s
  | .ldyAbs a => Sys2Proof.Machine.execLdyAbs a s
  | .ldaAbs a => Sys2Proof.Machine.execLdaAbs a s
  | .ldxAbs a => Sys2Proof.Machine.execLdxAbs a s
  | .ldaLong a => Sys2Proof.Machine.execLdaLong a s
  | .bcs r => Sys2Proof.Machine.execBcs r s
  | .ldaDirIndY o => Sys2Proof.Machine.execLdaDirIndY o s
  | .ldaDirInd o => Sys2Proof.Machine.execLdaDirInd o s
  | .ldaStkRelIndY o => Sys2Proof.Machine.execLdaStkRelIndY o s
  | .ldyDirX o => Sys2Proof.Machine.execLdyDirX o s
  | .ldaDirX o => Sys2Proof.Machine.execLdaDirX o s
  | .ldxDirY o => Sys2Proof.Machine.execLdxDirY o s
  | .ldaDirIndLongY o => Sys2Proof.Machine.execLdaDirIndLongY o s
  | .ldaAbsY a => Sys2Proof.Machine.execLdaAbsY a s
  | .ldyAbsX a => Sys2Proof.Machine.execLdyAbsX a s
  | .ldaAbsX a => Sys2Proof.Machine.execLdaAbsX a s
  | .ldxAbsY a => Sys2Proof.Machine.execLdxAbsY a s
  | .ldaLongX a => Sys2Proof.Machine.execLdaLongX a s
  | .cpyImm v => Sys2Proof.Machine.execCpyImm v s
  | .cmpDirXInd o => Sys2Proof.Machine.execCmpDirXInd o s
  | .rep mask => Sys2Proof.Machine.execRep mask s
  | .cmpStkRel o => Sys2Proof.Machine.execCmpStkRel o s
  | .cpyDir o => Sys2Proof.Machine.execCpyDir o s
  | .cmpDir o => Sys2Proof.Machine.execCmpDir o s
  | .decDir o => Sys2Proof.Machine.execDecDir o s
  | .cmpDirIndLong o => Sys2Proof.Machine.execCmpDirIndLong o s
  | .cmpImm v => Sys2Proof.Machine.execCmpImm v s
  | .cpyAbs a => Sys2Proof.Machine.execCpyAbs a s
  | .cmpAbs a => Sys2Proof.Machine.execCmpAbs a s
  | .decAbs a => Sys2Proof.Machine.execDecAbs a s
  | .cmpLong a => Sys2Proof.Machine.execCmpLong a s
  | .bne r => Sys2Proof.Machine.execBne r s
  | .cmpDirIndY o => Sys2Proof.Machine.execCmpDirIndY o s
  | .cmpDirInd o => Sys2Proof.Machine.execCmpDirInd o s
  | .cmpStkRelIndY o => Sys2Proof.Machine.execCmpStkRelIndY o s
  | .pei o => Sys2Proof.Machine.execPei o s
  | .cmpDirX o => Sys2Proof.Machine.execCmpDirX o s
  | .decDirX o => Sys2Proof.Machine.execDecDirX o s
  | .cmpDirIndLongY o => Sys2Proof.Machine.execCmpDirIndLongY o s
  | .cmpAbsY a => Sys2Proof.Machine.execCmpAbsY a s
  | .jml a => Sys2Proof.Machine.execJml a s
  | .cmpAbsX a => Sys2Proof.Machine.execCmpAbsX a s
  | .decAbsX a => Sys2Proof.Machine.execDecAbsX a s
  | .cmpLongX a => Sys2Proof.Machine.execCmpLongX a s
  | .cpxImm v => Sys2Proof.Machine.execCpxImm v s
  | .sbcDirXInd o => Sys2Proof.Machine.execSbcDirXInd o s
  | .sep mask => Sys2Proof.Machine.execSep mask s
  | .sbcStkRel o => Sys2Proof.Machine.execSbcStkRel o s
  | .cpxDir o => Sys2Proof.Machine.execCpxDir o s
  | .sbcDir o => Sys2Proof.Machine.execSbcDir o s
  | .incDir o => Sys2Proof.Machine.execIncDir o s
  | .sbcDirIndLong o => Sys2Proof.Machine.execSbcDirIndLong o s
  | .sbcImm v => Sys2Proof.Machine.execSbcImm v s
  | .cpxAbs a => Sys2Proof.Machine.execCpxAbs a s
  | .sbcAbs a => Sys2Proof.Machine.execSbcAbs a s
  | .incAbs a => Sys2Proof.Machine.execIncAbs a s
  | .sbcLong a => Sys2Proof.Machine.execSbcLong a s
  | .beq r => Sys2Proof.Machine.execBeq r s
  | .sbcDirIndY o => Sys2Proof.Machine.execSbcDirIndY o s
  | .sbcDirInd o => Sys2Proof.Machine.execSbcDirInd o s
  | .sbcStkRelIndY o => Sys2Proof.Machine.execSbcStkRelIndY o s
  | .pea v => Sys2Proof.Machine.execPea v s
  | .sbcDirX o => Sys2Proof.Machine.execSbcDirX o s
  | .incDirX o => Sys2Proof.Machine.execIncDirX o s
  | .sbcDirIndLongY o => Sys2Proof.Machine.execSbcDirIndLongY o s
  | .sbcAbsY a => Sys2Proof.Machine.execSbcAbsY a s
  | .jsrAbsXInd a => Sys2Proof.Machine.execJsrAbsXInd a s
  | .sbcAbsX a => Sys2Proof.Machine.execSbcAbsX a s
  | .incAbsX a => Sys2Proof.Machine.execIncAbsX a s
  | .sbcLongX a => Sys2Proof.Machine.execSbcLongX a s
  | .php => Sys2Proof.Machine.execPhp s
  | .aslAcc => Sys2Proof.Machine.execAslAcc s
  | .phd => Sys2Proof.Machine.execPhd s
  | .clc => Sys2Proof.Machine.execClc s
  | .incAcc => Sys2Proof.Machine.execIncAcc s
  | .tcs => Sys2Proof.Machine.execTcs s
  | .plp => Sys2Proof.Machine.execPlp s
  | .rolAcc => Sys2Proof.Machine.execRolAcc s
  | .pld => Sys2Proof.Machine.execPld s
  | .sec => Sys2Proof.Machine.execSec s
  | .decAcc => Sys2Proof.Machine.execDecAcc s
  | .tsc => Sys2Proof.Machine.execTsc s
  | .rti => Sys2Proof.Machine.execRti s
  | .pha => Sys2Proof.Machine.execPha s
  | .lsrAcc => Sys2Proof.Machine.execLsrAcc s
  | .phk => Sys2Proof.Machine.execPhk s
  | .cli => Sys2Proof.Machine.execCli s
  | .phy => Sys2Proof.Machine.execPhy s
  | .tcd => Sys2Proof.Machine.execTcd s
  | .rts => Sys2Proof.Machine.execRts s
  | .pla => Sys2Proof.Machine.execPla s
  | .rorAcc => Sys2Proof.Machine.execRorAcc s
  | .rtl => Sys2Proof.Machine.execRtl s
  | .sei => Sys2Proof.Machine.execSei s
  | .ply => Sys2Proof.Machine.execPly s
  | .tdc => Sys2Proof.Machine.execTdc s
  | .dey => Sys2Proof.Machine.execDey s
  | .txa => Sys2Proof.Machine.execTxa s
  | .phb => Sys2Proof.Machine.execPhb s
  | .tya => Sys2Proof.Machine.execTya s
  | .txs => Sys2Proof.Machine.execTxs s
  | .txy => Sys2Proof.Machine.execTxy s
  | .tay => Sys2Proof.Machine.execTay s
  | .tax => Sys2Proof.Machine.execTax s
  | .plb => Sys2Proof.Machine.execPlb s
  | .clv => Sys2Proof.Machine.execClv s
  | .tsx => Sys2Proof.Machine.execTsx s
  | .tyx => Sys2Proof.Machine.execTyx s
  | .iny => Sys2Proof.Machine.execIny s
  | .dex => Sys2Proof.Machine.execDex s
  | .wai => Sys2Proof.Machine.execWai s
  | .cld => Sys2Proof.Machine.execCld s
  | .phx => Sys2Proof.Machine.execPhx s
  | .stp => Sys2Proof.Machine.execStp s
  | .inx => Sys2Proof.Machine.execInx s
  | .nop => Sys2Proof.Machine.execNop s
  | .xba => Sys2Proof.Machine.execXba s
  | .sed => Sys2Proof.Machine.execSed s
  | .plx => Sys2Proof.Machine.execPlx s
  | .xce => Sys2Proof.Machine.execXce s

end Sys2Proof.Machine
end

