-- ==== Sys2Proof/Machine/Boundary.lean ====
section
/-! DEFINITION. One step boundary: the environment's events, the recognition of interrupts in the order of R316, the wait
of WAI (R332, R333), the stopped state (R331), and ABORT (R314). -/

namespace Sys2Proof.Machine

open Sys2Proof

/-- The instructions for which note 3 of Table 9 names a last abortable cycle (R314). -/
def hasLastAbortableCycle (i : Instr) : Bool := i.mnemonic ∈ [.BRK, .COP, .RTI]

namespace State

/-- The input of the next step; past the end of the list the environment is silent (log 6). -/
def input (s : State) : StepInput := (s.inputs.head?).getD .quiet

/-- Bytes another bus master has written, in bus order (R80, R85, R343). -/
def applyBusWrites (s : State) : List (Addr × Byte) → State
  | [] => s
  | (a, v) :: rest => (s.writeByte a v).applyBusWrites rest

/-- The input of this step is taken off the list, and M and X are noted as this step finds them (R45; log 6, log 28). -/
def enterStep (s : State) : State :=
  { s with
    inputs := s.inputs.tail
    lastM := s.p.m
    lastX := s.p.x
    freeCount := if s.mxJustChanged then s.freeCount + 1 else s.freeCount }

/-- The events that fall between two steps (R343): the input is taken off the list, another master's writes land, an SO
edge sets V on the G65SC802 (R340), an NMI edge sets its latch unless the clock is stopped (R47, R297; log 12, log 19). -/
def takeEvents (s : State) (inp : StepInput) : State :=
  let t := s.enterStep.applyBusWrites inp.busWrites
  { t with
    p := { t.p with v := t.p.v || (t.hasSo && inp.soEdge) }
    nmiPending := t.nmiPending || (inp.nmiEdge && !t.stopped) }

/-- An ABORT asserted while waiting sets its latch (R48, R333). -/
def latchAbort (s : State) (inp : StepInput) : State :=
  { s with abortPending := s.abortPending || (s.hasAbort && inp.abort) }

/-- ABORT is active in this step, by the input or by its latch (R48, R314, R317; log 10). -/
def aborted (s : State) (inp : StepInput) : Bool := s.hasAbort && (inp.abort || s.abortPending)

/-- How many ABORTs of this step come behind a last abortable cycle (R314; log 24). -/
def lateAborts (s : State) (inp : StepInput) : Nat := if s.hasAbort then inp.lateAborts else 0

/-- What an ABORT in time leaves of an instruction or sequence from `s` to `t` (R314): no register changes, and the memory
writes land as the parameter ABORT_WRITES says. -/
def discard (s t : State) : State := { s with mem := if s.config.abortWrites then t.mem else s.mem }

/-- What an ABORT behind the last abortable cycle of BRK, COP, RTI or an interrupt sequence leaves of it (R314, note 3 of
Table 9): P, PBR and DBR are updated, with XH and YH cut where the new P has X = 1 (R22), and all else is discarded. Whether
the latch of an NMI sequence so broken off stays set is free (log 24). -/
def discardLate (s t : State) : State :=
  { s.discard t with
    p := t.p
    pbr := t.pbr
    dbr := t.dbr
    nmiPending := t.nmiPending || (s.nmiPending && Config.latchKeptByLateAbort s.freeCount)
    freeCount := s.freeCount + 1 }.truncateIndex

/-- The interrupt sequence for `k` (R320) under so many late ABORTs, each of which is followed by the ABORT sequence with the
same return address (R314; log 24). -/
def interrupted (s : State) : Nat → Interrupt → Word → State
  | 0, k, r => s.takeInterrupt k r
  | n + 1, k, r => (s.discardLate (s.takeInterrupt k r)).interrupted n .abort r

/-- What ends a wait other than RES (R332): NMI, IRQ low whatever I is, or RDY forced high. -/
def wakes (s : State) (inp : StepInput) : Bool := s.nmiPending || inp.irqLow || inp.rdyForcedHigh

/-- One step while waiting (R299, R332, R333): an ABORT is latched and does not end the wait; when the wait ends, a
latched ABORT is taken first, with the address of the WAI opcode, then NMI, then IRQ unless I is 1; a late ABORT falls into
that sequence. -/
def waitStep (s : State) (inp : StepInput) : State :=
  let t := s.latchAbort inp
  if t.wakes inp then
    let u := { t with waiting := false }
    if u.hasAbort && u.abortPending then u.interrupted (u.lateAborts inp) .abort (u.pc - 1)
    else if u.nmiPending then u.interrupted (u.lateAborts inp) .nmi u.pc
    else if inp.irqLow && !u.p.i then u.interrupted (u.lateAborts inp) .irq u.pc
    else u
  else t

/-- Executes the instruction at PBR:PC (R14). -/
def runInstruction (s : State) : Result :=
  match s.fetch with
  | .ok i => exec i s
  | .error why => .fault (.undecodable why)

/-- Executes the instruction at PBR:PC under an ABORT in time (R314): it is discarded, then the ABORT sequence runs with the
address of the aborted opcode, under `late` late ABORTs. -/
def runAborted (s : State) (late : Nat) : Result :=
  match s.runInstruction with
  | .next t => .next ((s.discard t).interrupted late .abort s.pc)
  | .fault r => .fault r
  | .refused r => .refused r

/-- Executes the instruction at PBR:PC under no ABORT in time and `late` late ones. The first of them falls into BRK, COP or
RTI, the instructions that have a last abortable cycle (R314, note 3 of Table 9); the ABORT sequence follows with the address of
that opcode. Any other instruction has none: an ABORT during it is in time. -/
def runUnaborted (s : State) (late : Nat) : Result :=
  match late with
  | 0 => s.runInstruction
  | n + 1 =>
    match s.fetch, s.runInstruction with
    | .ok i, .next t =>
      if hasLastAbortableCycle i then .next ((s.discardLate t).interrupted n .abort s.pc) else .next t
    | _, answer => answer

/-- The boundary of R316, lines 1 to 6, after the events between the steps. An ABORT that is active goes before NMI and IRQ,
as R317 ranks them (log 10); a late ABORT falls into what the boundary chooses (log 24). -/
def boundary (s : State) (inp : StepInput) : Result :=
  if inp.res then .next s.resetSequence
  else if s.stopped then .next s
  else if s.waiting then .next (s.waitStep inp)
  else if s.aborted inp then s.runAborted (s.lateAborts inp)
  else if s.nmiPending then .next (s.interrupted (s.lateAborts inp) .nmi s.pc)
  else if inp.irqLow && !s.p.i then .next (s.interrupted (s.lateAborts inp) .irq s.pc)
  else s.runUnaborted (s.lateAborts inp)

/-- One step of the machine: the events, then the boundary (R14, R316). -/
def runStep (s : State) : Result := (s.takeEvents s.input).boundary s.input

/-- Puts an instruction word where the next step fetches: its four bytes at PBR:PC up, bits from `nbits` up 0. A wait, a
stop, latched interrupts and inputs that would keep the next step from executing it are cleared (log 7). -/
def placeWord (s : State) (nbits w : Nat) : State :=
  { s.storeK s.pc (tableBytes nbits w) with
    waiting := false, stopped := false, nmiPending := false, abortPending := false, inputs := [] }

end State

end Sys2Proof.Machine
end

