-- ==== Sys2Proof/Machine/Bus.lean ====
section
/-! DEFINITION. What the outside sees: the byte accesses of each instruction, interrupt sequence and step in bus order (R72,
R73, R74), the cycle each of them makes on the pins (R3, R5, R45, R73, R345), and the outputs while RES is low (R351).
Internal-operation cycles are no accesses (D16; log 15). -/

namespace Sys2Proof.Machine

open Sys2Proof

/-- What an access is for; the pins tell these apart. -/
inductive AccessKind where
  /-- The opcode fetch of an instruction. -/
  | opcode
  /-- The fetch of an operand byte of the instruction. -/
  | operand
  /-- Data, direct and bank-0 pointers, stack. -/
  | data
  /-- A byte of the pointer table of `(a,x)` in the program bank. -/
  | table
  /-- A byte of an interrupt or reset vector. -/
  | vector
deriving DecidableEq, Repr

/-- One byte access (R60): an address as the processor computes it, and the byte when it is a write. -/
structure Access where
  /-- What it is for. -/
  kind : AccessKind
  /-- The 24-bit address. -/
  addr : Addr
  /-- The byte written, or none for a read. -/
  written : Option Byte
  /-- Part of the locked end of a read-modify-write instruction (R73). -/
  locked : Bool
deriving DecidableEq, Repr

namespace Access

/-- A read. -/
def read (k : AccessKind) (a : Addr) : Access := { kind := k, addr := a, written := none, locked := false }

/-- A write of data. -/
def write (a : Addr) (v : Byte) : Access := { kind := .data, addr := a, written := some v, locked := false }

/-- The same access with ML low (R73). -/
def lock (x : Access) : Access := { x with locked := true }

/-- What an access does to memory (R61). -/
def apply (v : Variant) (m : Memory) (x : Access) : Memory :=
  match x.written with
  | some b => m.write (physAddr v x.addr) b
  | none => m

end Access

namespace State

/-! ### Fetch, stack, operands -/

/-- The fetch of the `k`-th byte of the instruction at PBR:PC (R28, R72). -/
def fetchAccess (s : State) (k : Nat) : Access :=
  .read (if k = 0 then .opcode else .operand) (mkAddr s.pbr (s.pc + BitVec.ofNat 16 k))

/-- The fetch of an instruction of `n` bytes, in ascending order (R72). -/
def fetchAccesses (s : State) (n : Nat) : List Access := (List.range n).map s.fetchAccess

/-- Ordinary pushes of these bytes (R220). -/
def pushAccesses (s : State) : List Byte → List Access
  | [] => []
  | b :: rest => .write (bank0 s.sp) b :: (s.push8 b).pushAccesses rest

/-- `New` pushes of these bytes (R222). -/
def pushNewAccesses (s : State) : List Byte → List Access
  | [] => []
  | b :: rest => .write (bank0 s.sp) b :: (s.pushNew8 b).pushNewAccesses rest

/-- `n` ordinary pulls (R221). -/
def pullAccesses (s : State) : Nat → List Access
  | 0 => []
  | n + 1 => .read .data (bank0 s.spAfterPull) :: s.pull8.2.pullAccesses n

/-- `n` `New` pulls (R222). -/
def pullNewAccesses (s : State) : Nat → List Access
  | 0 => []
  | n + 1 => .read .data (bank0 (s.sp + 1)) :: s.pullNew8.2.pullNewAccesses n

/-- A 16-bit direct pointer at `p`: low byte, then high byte (R72, R113). -/
def pointer16 (s : State) (p : Word) : List Access := [.read .data (bank0 p), .read .data (bank0 (s.dirPtrSecond p))]

/-- `n` bytes of bank 00 from `p` up, wrapping within the bank (R67, R72). -/
def bank0Reads (p : Word) (n : Nat) : List Access :=
  (List.range n).map fun k => .read .data (bank0 (p + BitVec.ofNat 16 k))

/-- The pointer a memory mode reads before its operand (R125 to R129, R136). -/
def pointerAccesses (s : State) : MemMode → List Access
  | .dirInd o => s.pointer16 (s.dirAddr o)
  | .dirXInd o => s.pointer16 (s.dirIdx o s.x)
  | .dirIndY o => s.pointer16 (s.dirAddr o)
  | .dirIndLong o => bank0Reads (s.dirAddr o) 3
  | .dirIndLongY o => bank0Reads (s.dirAddr o) 3
  | .stkRelIndY o => bank0Reads (s.stkAddr o) 2
  | .dir _ | .dirX _ | .dirY _ | .abs _ | .absX _ | .absY _ | .long _ | .longX _ | .stkRel _ => []

/-- The reads of an operand: one byte, or low byte then high byte (R72, R150). -/
def placeReads (narrow : Bool) (pl : Place) : List Access :=
  if narrow then [.read .data pl.first] else [.read .data pl.first, .read .data pl.second]

/-- The writes of a store: one byte, or low byte then high byte (R72). -/
def placeWrites (narrow : Bool) (pl : Place) (v : Word) : List Access :=
  if narrow then [.write pl.first (loByte v)] else [.write pl.first (loByte v), .write pl.second (hiByte v)]

/-- The reads of a source operand (R150). -/
def sourceAccesses (s : State) (narrow : Bool) : Src → List Access
  | .imm _ => []
  | .mem m => s.pointerAccesses m ++ placeReads narrow (s.place m)

end State

/-- The mnemonics whose operand has the index width (R152, R153, R155, R156, R169, R170). -/
def indexWide (op : Mnemonic) : Bool := op ∈ [.LDX, .LDY, .STX, .STY, .CPX, .CPY]

/-- The function of a read-modify-write mnemonic (R181 to R188). -/
def rmwOf (op : Mnemonic) : RmwFn :=
  match op with
  | .ASL => aslFn
  | .LSR => lsrFn
  | .ROL => rolFn
  | .ROR => rorFn
  | .INC => incFn
  | .DEC => decFn
  | .TRB => trbFn
  | _ => tsbFn

namespace State

/-- An operand of this mnemonic is 8 bits wide (R9). -/
def narrowFor (s : State) (op : Mnemonic) : Bool := if indexWide op then s.x8 else s.m8

/-- What a store stores (R154 to R157). -/
def storeValue (s : State) (op : Mnemonic) : Word :=
  match op with
  | .STA => s.c
  | .STX => s.x
  | .STY => s.y
  | _ => 0

/-- The locked end of a read-modify-write of memory (R72, R73): the operand is read; in Emulation mode the old value is
written first; a 16-bit result is written high byte first. -/
def modifyAccesses (s : State) (f : RmwFn) (pl : Place) : List Access :=
  List.map Access.lock <|
    placeReads s.m8 pl ++
      if s.m8 then
        (if s.e then [.write pl.first (s.load8 pl)] else []) ++ [.write pl.first (f 8 (s.acc 8) s.p (s.load8 pl)).1]
      else
        let r := (f 16 (s.acc 16) s.p (s.load16 pl)).1
        [.write pl.second (hiByte r), .write pl.first (loByte r)]

/-! ### Interrupts -/

/-- The bytes the interrupt sequence stacks, in order (R320). -/
def interruptBytes (s : State) (k : Interrupt) (r : Word) : List Byte :=
  (if s.e then [] else [s.pbr]) ++ [hiByte r, loByte r, s.p.toByte s.e k.software]

/-- The two reads of a vector (R322). -/
def vectorAccesses (v : Word) : List Access := [.read .vector (bank0 v), .read .vector (bank0 (v + 1))]

/-- The interrupt sequence (R320): three or four pushes, then the vector. -/
def interruptAccesses (s : State) (k : Interrupt) (r : Word) : List Access :=
  s.pushAccesses (s.interruptBytes k r) ++ vectorAccesses (k.vector s.e)

/-- The reset sequence (R352): the stack cycles are reads, three in page 1 down to one above the S they leave, then the
vector. -/
def resetAccesses (s : State) : List Access :=
  let sl := loByte s.resetSequence.sp
  [3, 2, 1].map (fun k => .read .data (bank0 (mkWord 0x01 (sl + k)))) ++ vectorAccesses resetVector

/-! ### Instructions -/

/-- The pointer of `(a,x)`, in the program bank (R131). -/
def tableAccesses (s : State) (p : Word) : List Access :=
  [.read .table (mkAddr s.pbr p), .read .table (mkAddr s.pbr (p + 1))]

/-- The accesses after the fetch of the instructions that have no memory operand in the sense of `View` (R72): stack, jumps,
calls, returns, software interrupts, block moves. The others have none. JSR `(a,x)` stands in `instrAccesses`. -/
def specialAccesses (s : State) (i : Instr) : List Access :=
  match i with
  | .pha => s.pushAccesses (if s.m8 then [s.a8] else [hiByte s.c, loByte s.c])
  | .phx => s.pushAccesses (if s.x8 then [loByte s.x] else [hiByte s.x, loByte s.x])
  | .phy => s.pushAccesses (if s.x8 then [loByte s.y] else [hiByte s.y, loByte s.y])
  | .phb => s.pushAccesses [s.dbr]
  | .phk => s.pushAccesses [s.pbr]
  | .php => s.pushAccesses [s.p.toByte s.e true]
  | .phd => s.pushNewAccesses [hiByte s.d, loByte s.d]
  | .pea v => s.pushNewAccesses [hiByte v, loByte v]
  | .pei o =>
    let v := s.readWord0 (s.dirAddr o)
    bank0Reads (s.dirAddr o) 2 ++ s.pushNewAccesses [hiByte v, loByte v]
  | .per r => s.pushNewAccesses [hiByte (s.pc + 3 + r), loByte (s.pc + 3 + r)]
  | .pla => s.pullAccesses (if s.m8 then 1 else 2)
  | .plx => s.pullAccesses (if s.x8 then 1 else 2)
  | .ply => s.pullAccesses (if s.x8 then 1 else 2)
  | .plb => s.pullAccesses 1
  | .plp => s.pullAccesses 1
  | .pld => s.pullNewAccesses 2
  | .jmpAbsInd a => bank0Reads a 2
  | .jml a => bank0Reads a 3
  | .jmpAbsXInd a => s.tableAccesses (a + s.x)
  | .jsrAbs _ => s.pushAccesses [hiByte (s.pc + 2), loByte (s.pc + 2)]
  | .jsl _ => s.pushNewAccesses [s.pbr, hiByte (s.pc + 3), loByte (s.pc + 3)]
  | .rts => s.pullAccesses 2
  | .rtl => s.pullNewAccesses 3
  | .rti => s.pullAccesses (if s.e then 3 else 4)
  | .brk _ => s.interruptAccesses .brk (s.pc + 2)
  | .cop _ => s.interruptAccesses .cop (s.pc + 2)
  | .mvn dst src | .mvp dst src =>
    [.read .data (mkAddr src s.x), .write (mkAddr dst s.y) (s.readByte (mkAddr src s.x))]
  | _ => []

/-- The accesses after the fetch. -/
def dataAccesses (s : State) (i : Instr) : List Access :=
  match i.view with
  | .read op src => s.sourceAccesses (s.narrowFor op) src
  | .write op m => s.pointerAccesses m ++ placeWrites (s.narrowFor op) (s.place m) (s.storeValue op)
  | .modify op m => s.pointerAccesses m ++ s.modifyAccesses (rmwOf op) (s.place m)
  | .acc _ => []
  | .branch _ _ => []
  | .implied _ => s.specialAccesses i
  | .special _ _ => s.specialAccesses i

/-- Every byte access of an instruction at PBR:PC, in bus order (R72): the fetch first, but JSR `(a,x)` pushes before it
fetches its high operand byte. -/
def instrAccesses (s : State) (i : Instr) : List Access :=
  match i with
  | .jsrAbsXInd a =>
    s.fetchAccesses 2 ++ s.pushNewAccesses [hiByte (s.pc + 2), loByte (s.pc + 2)] ++ [s.fetchAccess 2] ++
      s.tableAccesses (s.lateOperand a + s.x)
  | i => s.fetchAccesses i.length ++ s.dataAccesses i

/-! ### Steps -/

/-- The accesses of the instruction at PBR:PC. -/
def runAccesses (s : State) : List Access :=
  match s.fetch with
  | .ok i => s.instrAccesses i
  | .error _ => []

/-- The accesses of what an ABORT discards (R314): the reads as usual, the writes as ABORT_WRITES says. -/
def discardedAccesses (s : State) (xs : List Access) : List Access :=
  if s.config.abortWrites then xs else xs.filter (fun x => x.written.isNone)

/-- An interrupt sequence under so many late ABORTs, case by case as `interrupted` (R314; log 24). -/
def interruptedAccesses (s : State) : Nat → Interrupt → Word → List Access
  | 0, k, r => s.interruptAccesses k r
  | n + 1, k, r => s.discardedAccesses (s.interruptAccesses k r) ++
      (s.discardLate (s.takeInterrupt k r)).interruptedAccesses n .abort r

/-- An instruction that an ABORT in time discards, and the ABORT sequence, case by case as `runAborted` (R314). -/
def abortedAccesses (s : State) (late : Nat) : List Access :=
  match s.runInstruction with
  | .next t => s.discardedAccesses s.runAccesses ++ (s.discard t).interruptedAccesses late .abort s.pc
  | .fault _ => []
  | .refused _ => []

/-- The instruction at PBR:PC under no ABORT in time and `late` late ones, case by case as `runUnaborted` (R314; log 24). -/
def unabortedAccesses (s : State) (late : Nat) : List Access :=
  match late with
  | 0 => s.runAccesses
  | n + 1 =>
    match s.fetch, s.runInstruction with
    | .ok i, .next t =>
      if hasLastAbortableCycle i then
        s.discardedAccesses s.runAccesses ++ (s.discardLate t).interruptedAccesses n .abort s.pc
      else s.runAccesses
    | _, _ => s.runAccesses

/-- One step while waiting (R332, R333): the interrupt sequence that ends the wait, or nothing. -/
def waitAccesses (s : State) (inp : StepInput) : List Access :=
  let t := s.latchAbort inp
  if t.wakes inp then
    let u := { t with waiting := false }
    if u.hasAbort && u.abortPending then u.interruptedAccesses (u.lateAborts inp) .abort (u.pc - 1)
    else if u.nmiPending then u.interruptedAccesses (u.lateAborts inp) .nmi u.pc
    else if inp.irqLow && !u.p.i then u.interruptedAccesses (u.lateAborts inp) .irq u.pc
    else []
  else []

/-- The accesses of the boundary, case by case as `boundary` (R316). -/
def boundaryAccesses (s : State) (inp : StepInput) : List Access :=
  if inp.res then s.resetAccesses
  else if s.stopped then []
  else if s.waiting then s.waitAccesses inp
  else if s.aborted inp then s.abortedAccesses (s.lateAborts inp)
  else if s.nmiPending then s.interruptedAccesses (s.lateAborts inp) .nmi s.pc
  else if inp.irqLow && !s.p.i then s.interruptedAccesses (s.lateAborts inp) .irq s.pc
  else s.unabortedAccesses (s.lateAborts inp)

/-- The accesses of one step, in bus order. -/
def stepAccesses (s : State) : List Access := (s.takeEvents s.input).boundaryAccesses s.input

/-! ### Status outputs (R45, R46): which parts have the pin, and its level -/

/-- The E pin. -/
def pinE (s : State) : Option Bool := if s.hasStatusPins then some s.e else none

/-- The two levels of the M/X output in the `n`-th access of a step, while it shows M and while it shows X: the flags, or free
where a change of M or X leaves the output invalid (R45, U5, R362 (d); log 28). -/
def mxLevels (s : State) (invalid : Bool) (n : Nat) : Bool × Bool :=
  if invalid then Config.invalidMX s.freeCount n else (s.p.m, s.p.x)

/-- The M/X pin of the coming cycle while it shows M; G65SC816 only. -/
def pinM (s : State) : Option Bool := if s.hasAbort then some (s.mxLevels s.mxJustChanged 0).1 else none

/-- The M/X pin of the coming cycle while it shows X; G65SC816 only. -/
def pinX (s : State) : Option Bool := if s.hasAbort then some (s.mxLevels s.mxJustChanged 0).2 else none

/-- The processor pulls RDY low while it waits. -/
def pullsRdyLow (s : State) : Bool := s.waiting

end State

/-! ### Bus cycles -/

/-- The levels of the outputs in one bus cycle; a pin the part lacks is none (R3). RW, VP and ML are active low. -/
structure Pins where
  /-- R/W: high for a read (R60). -/
  rw : Bool
  /-- SYNC: high in an opcode fetch; G65SC802 (R345). -/
  sync : Option Bool
  /-- VDA: valid data address, and high in an opcode fetch; G65SC816 (R84, R345). -/
  vda : Option Bool
  /-- VPA: valid program address; G65SC816 (R84, R345). -/
  vpa : Option Bool
  /-- VP: low while a vector is read (R78, R322). -/
  vp : Option Bool
  /-- ML: low at the locked end of a read-modify-write (R73). -/
  ml : Option Bool
  /-- E (R45). -/
  e : Option Bool
  /-- M/X while it shows M (R45). -/
  m : Option Bool
  /-- M/X while it shows X (R45). -/
  x : Option Bool
deriving DecidableEq, Repr

/-- VDA in an access (R84, R345, and the cycle listings of 95_test_vectors.md 1.3). DEDUCED for stack pulls, pointers and
data; free for the table of `(a,x)` (log 27). -/
def AccessKind.vda : AccessKind → Bool
  | .opcode => true
  | .operand => false
  | .data => true
  | .table => Config.tablePointerIsData
  | .vector => true

/-- VPA in an access. -/
def AccessKind.vpa : AccessKind → Bool
  | .opcode => true
  | .operand => true
  | .data => false
  | .table => !Config.tablePointerIsData
  | .vector => false

/-- The outputs of a part during an access, with E as it is in `s` and these levels of M/X. -/
def State.accessPins (s : State) (mx : Bool × Bool) (x : Access) : Pins where
  rw := x.written.isNone
  sync := if s.hasSo then some (x.kind == .opcode) else none
  vda := if s.hasAbort then some x.kind.vda else none
  vpa := if s.hasAbort then some x.kind.vpa else none
  vp := if s.hasStatusPins then some (x.kind != .vector) else none
  ml := if s.hasStatusPins then some (!x.locked) else none
  e := s.pinE
  m := if s.hasAbort then some mx.1 else none
  x := if s.hasAbort then some mx.2 else none

/-- The outputs while RES is low (R351): E = 1, M/X = 1, R/W = 1, SYNC = 0, VDA = 0, VP = 1, VPA = 0; ML is high, since
nothing is locked (log 27). -/
def State.conditioningPins (s : State) : Pins :=
  { s.resetSequence.accessPins (true, true) (.read .data 0) with
    vda := if s.hasAbort then some false else none
    sync := if s.hasSo then some false else none }

/-- One bus cycle as memory and devices see it: the address the part presents (R61), the byte on the data bus, the pins. -/
structure BusCycle where
  /-- 24 bits on the G65SC816, 16 on the G65SC802. -/
  address : Nat
  /-- The byte read or written. -/
  data : Byte
  /-- The outputs. -/
  pins : Pins
deriving DecidableEq, Repr

/-- The cycles of these accesses, starting from a memory: a read finds what the writes before it left (R80). The access at
place `n` has the levels `mx n` of M/X. -/
def State.cyclesFrom (s : State) (mx : Nat → Bool × Bool) (m : Memory) (n : Nat) : List Access → List BusCycle
  | [] => []
  | x :: rest =>
    { address := physAddr s.config.variant x.addr
      data := x.written.getD (m.read (physAddr s.config.variant x.addr))
      pins := s.accessPins (mx n) x } :: s.cyclesFrom mx (x.apply s.config.variant m) (n + 1) rest

/-- The boundary changes M or X otherwise than by reset. -/
def State.changesMX (s : State) (inp : StepInput) : Bool :=
  match s.boundary inp with
  | .next t => !inp.res && (t.p.m != s.p.m || t.p.x != s.p.x)
  | .fault _ => false
  | .refused _ => false

/-- Where the M/X output may be invalid in the `n`-th access of a step (R45, U5; log 28): in the first, when M or X has just
changed; and behind the access that brings the new P, the second at the earliest, of an instruction that changes M or X,
which only RTI has. While RES is low M/X = 1 (R351), so a reset step has no such access. -/
def State.mxInvalid (s : State) (n : Nat) : Bool :=
  !s.input.res && (decide (n = 0) && s.mxJustChanged || decide (2 ≤ n) && (s.takeEvents s.input).changesMX s.input)

/-- What one step shows on the bus. E, M and X stand as they are while the step runs: as before it, or as reset makes them;
but M/X is free where it may be invalid. -/
def State.stepCycles (s : State) : List BusCycle :=
  let t := s.takeEvents s.input
  if s.input.res then t.resetSequence.cyclesFrom (fun _ => (true, true)) t.mem 0 s.stepAccesses
  else t.cyclesFrom (fun n => s.mxLevels (s.mxInvalid n) n) t.mem 0 s.stepAccesses

end Sys2Proof.Machine
end

