-- ==== Sys2Proof/Machine/Step.lean ====
section
/-! DEFINITION. The step function and the placing of an instruction where it fetches. -/

namespace Sys2Proof.Machine

/-- One step of the processor (R14): the boundary of R316. -/
def step (s : State) : Host.Outcome State Fault Refusal := s.runStep

/-- The state with one instruction word stored where the next step fetches, so that this step runs it (log 7). -/
def State.withFetchWord (s : State) (nbits w : Nat) : State := s.placeWord nbits w

end Sys2Proof.Machine
end

