-- ==== Sys2Proof/Safety.lean ====
section
/-! DEFINITION. What statements about runs speak of: the invariants the spec states for every state a program can meet
(R22, R23, R35), the canonical form of memory, and the ends of a run (R372). -/

namespace Sys2Proof.Machine

open Sys2Proof

namespace State

/-- The invariant of Emulation mode (R35): while E = 1, M = X = 1, XH = YH = 00 and SH = 01. -/
def EmulationLocked (s : State) : Prop :=
  s.e = true → s.p.m = true ∧ s.p.x = true ∧ hiByte s.x = 0 ∧ hiByte s.y = 0 ∧ hiByte s.sp = 1

/-- The invariant of the index registers (R22): while `x8`, XH = YH = 00. -/
def IndexHighZero (s : State) : Prop := s.x8 = true → hiByte s.x = 0 ∧ hiByte s.y = 0

/-- The invariant of the mode and width state: R22 and R35 together. -/
def ModeInv (s : State) : Prop := s.EmulationLocked ∧ s.IndexHighZero

/-- The memory is in canonical form. -/
def MemInv (s : State) : Prop := s.mem.wf

/-- The environment is silent from here on (R372). -/
def Silent (s : State) : Prop := s.inputs = []

/-- The next step executes an instruction and nothing else happens at the boundary (R316 line 6, no ABORT). -/
def RunsNext (s : State) : Prop :=
  (s.inputs = [] ∨ s.inputs.head? = some .quiet) ∧ s.stopped = false ∧ s.waiting = false ∧
    s.nmiPending = false ∧ s.abortPending = false

/-- These bytes stand in the program bank from an offset up, wrapping within the bank (R28, R91). -/
def HoldsAt (s : State) : Word → List Byte → Prop
  | _, [] => True
  | a, b :: rest => s.readK a = b ∧ s.HoldsAt (a + 1) rest

end State

/-- A state that some run of the machine from `State.reset` reaches. -/
def Reachable (s : State) : Prop := ∃ k, Sys2Proof.core.run k State.reset = .next s

end Sys2Proof.Machine
end

