-- ==== Sys2Proof/Certificates/Slice0/Obligations.lean ====
section
/-! DEFINITION. The statements for the provers. The terms they share stand first, in `Sys2Proof.Claims`: results as numbers,
stack slots, what a form stores. A next state written as a record equation says the whole frame: a field it does not name,
memory among them, is as before. -/

namespace Sys2Proof.Claims

open Sys2Proof Sys2Proof.Machine

/-! ### Results -/

/-- N and Z from a result of `w` bits given as a number (R10). -/
def nz (p : Status) (w r : Nat) : Status := { p with n := decide (2 ^ (w - 1) ≤ r), z := decide (r = 0) }

/-- PC past an instruction (R29). -/
def past (s : State) (i : Instr) : Word := s.pc + BitVec.ofNat 16 i.length

/-- A signed number that `w` bits of two's complement cannot hold. -/
def outside (w : Nat) (z : Int) : Bool := decide (z < -(2 : Int) ^ (w - 1) ∨ (2 : Int) ^ (w - 1) ≤ z)

/-- A result at the accumulator's width: at 8 bits B keeps its value (R21). -/
def accResult (s : State) (i : Instr) (r8 : Byte × Status) (r16 : Word × Status) : State :=
  if s.m8 then { s with pc := past s i, c := mkWord (hiByte s.c) r8.1, p := r8.2 }
  else { s with pc := past s i, c := r16.1, p := r16.2 }

/-- A flag result at the accumulator's width. -/
def accFlags (s : State) (i : Instr) (p8 p16 : Status) : State :=
  { s with pc := past s i, p := if s.m8 then p8 else p16 }

/-- Binary ADC as numbers: the sum, its carry, and signed overflow (R160, R161). -/
def adcBinary {w : Nat} (a m : BitVec w) (p : Status) : BitVec w × Status :=
  let sum := a.toNat + m.toNat + p.c.toNat
  (BitVec.ofNat w sum,
    { nz p w (sum % 2 ^ w) with c := decide (2 ^ w ≤ sum), v := outside w (a.toInt + m.toInt + p.c.toNat) })

/-- Binary SBC as numbers: the difference, not-borrow, and signed overflow (R162). -/
def sbcBinary {w : Nat} (a m : BitVec w) (p : Status) : BitVec w × Status :=
  let borrow := 1 - p.c.toNat
  let r := BitVec.ofInt w ((a.toNat : Int) - m.toNat - borrow)
  (r, { nz p w r.toNat with c := decide (m.toNat + borrow ≤ a.toNat), v := outside w (a.toInt - m.toInt - borrow) })

/-- Every 4-bit digit of `v`, `w` bits wide, is 0 to 9 (R163 (a)). -/
def IsBcd (w v : Nat) : Prop := ∀ k, k < w / 4 → v / 16 ^ k % 16 ≤ 9

/-- The number the digits of `v` denote (R163 (a)). -/
def bcdNumber (w v : Nat) : Nat := ((List.range (w / 4)).map (fun k => v / 16 ^ k % 16 * 10 ^ k)).sum

/-- The digits of a number as a BCD value (R163 (b)). -/
def bcdDigits (w n : Nat) : Nat := ((List.range (w / 4)).map (fun k => n / 10 ^ k % 10 * 16 ^ k)).sum

/-- Decimal ADC of valid operands, with V given (R163 (b)). -/
def adcDecimal {w : Nat} (a m : BitVec w) (p : Status) (v : Bool) : BitVec w × Status :=
  let sum := bcdNumber w a.toNat + bcdNumber w m.toNat + p.c.toNat
  let r := bcdDigits w (sum % 10 ^ (w / 4))
  (BitVec.ofNat w r, { nz p w r with c := decide (10 ^ (w / 4) ≤ sum), v := v })

/-- Decimal SBC of valid operands, with V given (R163 (b)). -/
def sbcDecimal {w : Nat} (a m : BitVec w) (p : Status) (v : Bool) : BitVec w × Status :=
  let borrow := 1 - p.c.toNat
  let da := bcdNumber w a.toNat
  let dm := bcdNumber w m.toNat
  let r := bcdDigits w ((10 ^ (w / 4) + da - (dm + borrow)) % 10 ^ (w / 4))
  (BitVec.ofNat w r, { nz p w r with c := decide (dm + borrow ≤ da), v := v })

/-- What AND, ORA and EOR compute, by mnemonic (R164 to R166). -/
def logical {w : Nat} (op : Mnemonic) (a m : BitVec w) : BitVec w :=
  if op = .AND then a &&& m else if op = .ORA then a ||| m else a ^^^ m

/-- The flags of a compare, as numbers (R167). -/
def compared (w reg m : Nat) (p : Status) : Status :=
  { nz p w ((reg + 2 ^ w - m) % 2 ^ w) with c := decide (m ≤ reg) }

/-- A read-modify-write function on numbers of `w` bits: `a` is the accumulator, `v` the old value (R181 to R188). -/
def modified (op : Mnemonic) (w a v : Nat) (p : Status) : Nat × Status :=
  let top := decide (2 ^ (w - 1) ≤ v)
  let out := decide (v % 2 = 1)
  let back (r : Nat) (c : Bool) : Nat × Status := (r, { nz p w r with c := c })
  match op with
  | .ASL => back (2 * v % 2 ^ w) top
  | .ROL => back ((2 * v + p.c.toNat) % 2 ^ w) top
  | .LSR => back (v / 2) out
  | .ROR => back (v / 2 + p.c.toNat * 2 ^ (w - 1)) out
  | .INC => back ((v + 1) % 2 ^ w) p.c
  | .DEC => back ((v + 2 ^ w - 1) % 2 ^ w) p.c
  | .TRB => (v &&& (2 ^ w - 1 - a), { p with z := decide (a &&& v = 0) })
  | _ => (v ||| a, { p with z := decide (a &&& v = 0) })

/-- The condition of a short branch (R191 to R199). -/
def branchTaken (op : Mnemonic) (p : Status) : Bool :=
  match op with
  | .BCC => !p.c
  | .BCS => p.c
  | .BEQ => p.z
  | .BMI => p.n
  | .BNE => !p.z
  | .BPL => !p.n
  | .BVC => !p.v
  | .BVS => p.v
  | _ => true

/-- P from a pulled byte (R237): M and X only in Native mode. -/
def pulledStatus (s : State) (b : Byte) : Status :=
  { n := b.toNat.testBit 7, v := b.toNat.testBit 6
    m := if s.e then s.p.m else b.toNat.testBit 5, x := if s.e then s.p.x else b.toNat.testBit 4
    d := b.toNat.testBit 3, i := b.toNat.testBit 2, z := b.toNat.testBit 1, c := b.toNat.testBit 0 }

/-- An index register after P was loaded: cut to 8 bits when X is 1 in Native mode (R22). -/
def cutIndex (s : State) (p : Status) (v : Word) : Word := if s.e = false ∧ p.x = true then zext16 (loByte v) else v

/-- The byte of P that is pushed, as a number (R231, R321): `four` is bit 4 in Emulation mode. -/
def statusByte (s : State) (four : Bool) : Byte :=
  BitVec.ofNat 8 (128 * s.p.n.toNat + 64 * s.p.v.toNat + 32 * (s.e || s.p.m).toNat
    + 16 * (if s.e then four else s.p.x).toNat + 8 * s.p.d.toNat + 4 * s.p.i.toNat + 2 * s.p.z.toNat + s.p.c.toNat)

/-! ### Memory and stack -/

/-- `t` holds these bytes at these addresses, and every byte of memory outside them is as in `s` (R61 for the address
the memory system sees). -/
def Writes (s t : State) (ws : List (Addr × Byte)) : Prop :=
  (∀ w ∈ ws, t.readByte w.1 = w.2) ∧
    ∀ a, (∀ w ∈ ws, physAddr s.config.variant a ≠ physAddr s.config.variant w.1) → t.readByte a = s.readByte a

/-- S after `n` ordinary pushes: in Emulation mode only SL moves (R220). -/
def down (s : State) (n : Nat) : Word :=
  if s.e then mkWord (hiByte s.sp) (loByte s.sp - BitVec.ofNat 8 n) else s.sp - BitVec.ofNat 16 n

/-- S after `n` ordinary pulls (R221). -/
def up (s : State) (n : Nat) : Word :=
  if s.e then mkWord (hiByte s.sp) (loByte s.sp + BitVec.ofNat 8 n) else s.sp + BitVec.ofNat 16 n

/-- The byte the `n`-th ordinary pull reads, counted from 1 (R221). -/
def pulled (s : State) (n : Nat) : Byte := s.readByte (mkAddr 0 (up s n))

/-- S at the end of a `New` variant: in Emulation mode SH is 01 (R222). -/
def newEnd (s : State) (v : Word) : Word := if s.e then mkWord 0x01 (loByte v) else v

/-- The byte the `n`-th `New` pull reads, counted from 1 (R222). -/
def pulledNew (s : State) (n : Nat) : Byte := s.readByte (mkAddr 0 (s.sp + BitVec.ofNat 16 n))

/-- `t` is `s` with these bytes pushed in this order, PC at `pc`, and nothing else changed (R220). -/
def Pushed (s t : State) (pc : Word) (bytes : List Byte) : Prop :=
  t = { s with pc := pc, sp := down s bytes.length, mem := t.mem } ∧
    Writes s t (bytes.zipIdx.map (fun q => (mkAddr 0 (down s q.2), q.1)))

/-- `t` is `s` with these bytes pushed in this order by a `New` variant, PC and PBR as given, and nothing else changed
(R222). -/
def PushedNew (s t : State) (pc : Word) (pbr : Byte) (bytes : List Byte) : Prop :=
  t = { s with pc := pc, pbr := pbr, sp := newEnd s (s.sp - BitVec.ofNat 16 bytes.length), mem := t.mem } ∧
    Writes s t (bytes.zipIdx.map (fun q => (mkAddr 0 (s.sp - BitVec.ofNat 16 q.2), q.1)))

/-- The bytes a store of `v` writes to a memory operand, low byte first (R62, R154 to R157). -/
def storedBytes (s : State) (m : MemMode) (narrow : Bool) (v : Word) : List (Addr × Byte) :=
  if narrow then [((s.place m).first, loByte v)]
  else [((s.place m).first, loByte v), ((s.place m).second, hiByte v)]

/-- What a store stores, by mnemonic (R154 to R157). -/
def storeSource (s : State) (op : Mnemonic) : Word :=
  if op = .STA then s.c else if op = .STX then s.x else if op = .STY then s.y else 0

/-! ### Interrupts and inputs -/

/-- The table of R311: the address of the vector's low byte in bank 00. -/
def vectorAddr (k : Interrupt) (e : Bool) : Addr :=
  match k, e with
  | .abort, true => 0x00FFF8
  | .abort, false => 0x00FFE8
  | .nmi, true => 0x00FFFA
  | .nmi, false => 0x00FFEA
  | .irq, true => 0x00FFFE
  | .irq, false => 0x00FFEE
  | .brk, true => 0x00FFFE
  | .brk, false => 0x00FFE6
  | .cop, true => 0x00FFF4
  | .cop, false => 0x00FFE4

/-- `t` is `s` after the interrupt sequence for `k` with return address `r` (R320 to R322). -/
def Enters (k : Interrupt) (r : Word) (s t : State) : Prop :=
  t = { s with
        mem := t.mem
        sp := down s (if s.e then 3 else 4)
        p := { s.p with d := false, i := true }
        pbr := 0
        pc := mkWord (t.readByte (vectorAddr k s.e + 1)) (t.readByte (vectorAddr k s.e))
        nmiPending := if k = .nmi then false else s.nmiPending
        abortPending := if k = .abort then false else s.abortPending } ∧
    Writes s t
      ((((if s.e then [] else [s.pbr]) ++
        [hiByte r, loByte r, statusByte s (decide (k = .brk ∨ k = .cop))]).zipIdx).map
          (fun q => (mkAddr 0 (down s q.2), q.1)))

/-- What a late ABORT leaves of an instruction or sequence from `s` to `u` (R314; log 24): its P, PBR and DBR, with XH and YH
cut where that P says so (R22), and its memory writes as ABORT_WRITES says. Whether an NMI latch it would clear stays set is
free. -/
def leftLate (s u : State) : State :=
  { s with
    p := u.p, pbr := u.pbr, dbr := u.dbr, x := cutIndex s u.p s.x, y := cutIndex s u.p s.y
    mem := if s.config.abortWrites then u.mem else s.mem
    nmiPending := u.nmiPending || (s.nmiPending && Config.latchKeptByLateAbort s.freeCount)
    freeCount := s.freeCount + 1 }

/-- `t` is `s` after the interrupt sequence for `k` under `n` late ABORTs: each leaves of the sequence what `leftLate` says, and
the ABORT sequence with the same return address follows (R314; log 24). -/
def EntersUnder : Nat → Interrupt → Word → State → State → Prop
  | 0, k, r, s, t => Enters k r s t
  | n + 1, k, r, s, t => ∃ u : State, Enters k r s u ∧ EntersUnder n .abort r (leftLate s u) t

/-- How many ABORTs of this step come behind a last abortable cycle: none on the G65SC802 (R7, R314). -/
def lateCount (s : State) : Nat := if s.config.variant = .g65sc816 then s.input.lateAborts else 0

/-- Nothing that happens between the steps but the interrupt lines: no SO edge, no NMI edge, no other bus master. -/
def OnlyLines (inp : StepInput) : Prop := inp.soEdge = false ∧ inp.nmiEdge = false ∧ inp.busWrites = []

/-- The state with the input of this step taken off the list, and with the model's own note of M and X as this step finds
them, which only the M/X output reads (log 28). -/
def popped (s : State) : State :=
  { s with
    inputs := s.inputs.tail
    lastM := s.p.m
    lastX := s.p.x
    freeCount := if s.lastM ≠ s.p.m ∨ s.lastX ≠ s.p.x then s.freeCount + 1 else s.freeCount }

/-- The boundary reaches line 6 of R316 with no ABORT in time: neither reset, stop, wait, NMI nor an unmasked IRQ. -/
def ReachesInstruction (s : State) : Prop :=
  OnlyLines s.input ∧ s.input.res = false ∧ s.stopped = false ∧ s.waiting = false ∧ s.nmiPending = false ∧
    (s.input.irqLow = false ∨ s.p.i = true) ∧ s.aborted s.input = false

/-- An index register moved by `delta` at the index width (R207 to R210, R294). -/
def movedIndex (s : State) (v : Word) (delta : Int) : Word :=
  if s.x8 then zext16 (BitVec.ofInt 8 ((loByte v).toNat + delta)) else BitVec.ofInt 16 (v.toNat + delta)

/-- N and Z from a result at the index width. -/
def indexFlags (s : State) (v : Word) : Status :=
  if s.x8 then nz s.p 8 (loByte v).toNat else nz s.p 16 v.toNat

/-- The value a register transfer stores in an index register (R250). -/
def indexValue (s : State) (v : Word) : Word := if s.x8 then zext16 (loByte v) else v

/-- The same instruction executed `n` times. -/
def execTimes (i : Instr) : Nat → State → Result
  | 0, s => .next s
  | n + 1, s =>
    match exec i s with
    | .next t => execTimes i n t
    | .fault r => .fault r
    | .refused r => .refused r

/-- Mnemonics that store to memory in a form that has a memory operand, push or move (R154 to R157, R180, R223, R294).
-/
def storingMnemonics : List Mnemonic :=
  [.STA, .STX, .STY, .STZ, .ASL, .LSR, .ROL, .ROR, .INC, .DEC, .TRB, .TSB, .PEA, .PEI, .PER, .PHA, .PHB, .PHD, .PHK,
   .PHP, .PHX, .PHY, .JSR, .JSL, .BRK, .COP, .MVN, .MVP]

/-- Mnemonics that write N and Z from a result (R36, R42); LSR clears N. -/
def resultMnemonics : List Mnemonic :=
  [.ADC, .AND, .ASL, .CMP, .CPX, .CPY, .DEC, .DEX, .DEY, .EOR, .INC, .INX, .INY, .LDA, .LDX, .LDY, .ORA, .PLA, .PLB,
    .PLD, .PLX, .PLY, .ROL, .ROR, .SBC, .TAX, .TAY, .TCD, .TDC, .TSC, .TSX, .TXA, .TXY, .TYA, .TYX, .XBA]

/-- The base of the rows of the opcode matrix that the eight accumulator operations share (R97). -/
def accumulatorRow (op : Mnemonic) : Option Nat :=
  match op with
  | .ORA => some 0x00
  | .AND => some 0x20
  | .EOR => some 0x40
  | .ADC => some 0x60
  | .STA => some 0x80
  | .LDA => some 0xA0
  | .CMP => some 0xC0
  | .SBC => some 0xE0
  | _ => none

/-- The column of a memory mode in those rows (R97); `d,y` is none of their modes. -/
def accumulatorColumn (m : MemMode) : Nat :=
  match m with
  | .dirXInd _ => 0x01
  | .stkRel _ => 0x03
  | .dir _ => 0x05
  | .dirIndLong _ => 0x07
  | .abs _ => 0x0D
  | .long _ => 0x0F
  | .dirIndY _ => 0x11
  | .dirInd _ => 0x12
  | .stkRelIndY _ => 0x13
  | .dirX _ => 0x15
  | .dirIndLongY _ => 0x17
  | .absY _ => 0x19
  | .absX _ => 0x1D
  | .longX _ => 0x1F
  | .dirY _ => 0xFF

/-- The base of the rows of the six shift, increment and decrement operations (R97). -/
def shiftRow (op : Mnemonic) : Option Nat :=
  match op with
  | .ASL => some 0x00
  | .ROL => some 0x20
  | .LSR => some 0x40
  | .ROR => some 0x60
  | .DEC => some 0xC0
  | .INC => some 0xE0
  | _ => none

/-- The column of a memory mode in those rows (R97). -/
def shiftColumn (m : MemMode) : Nat :=
  match m with
  | .dir _ => 0x06
  | .abs _ => 0x0E
  | .dirX _ => 0x16
  | .absX _ => 0x1E
  | _ => 0xFF

/-- The rows of the opcode matrix of R97 that no regular row and column covers: instruction, what it is, opcode. -/
def irregularRows (v : Imm) (o : Byte) (a : Word) : List (Instr × View × Byte) :=
  [(.ldxImm v, .read .LDX (.imm v), 0xA2), (.ldxDir o, .read .LDX (.mem (.dir o)), 0xA6),
    (.ldxDirY o, .read .LDX (.mem (.dirY o)), 0xB6), (.ldxAbs a, .read .LDX (.mem (.abs a)), 0xAE),
    (.ldxAbsY a, .read .LDX (.mem (.absY a)), 0xBE), (.ldyImm v, .read .LDY (.imm v), 0xA0),
    (.ldyDir o, .read .LDY (.mem (.dir o)), 0xA4), (.ldyDirX o, .read .LDY (.mem (.dirX o)), 0xB4),
    (.ldyAbs a, .read .LDY (.mem (.abs a)), 0xAC), (.ldyAbsX a, .read .LDY (.mem (.absX a)), 0xBC),
    (.stxDir o, .write .STX (.dir o), 0x86), (.stxDirY o, .write .STX (.dirY o), 0x96),
    (.stxAbs a, .write .STX (.abs a), 0x8E), (.styDir o, .write .STY (.dir o), 0x84),
    (.styDirX o, .write .STY (.dirX o), 0x94), (.styAbs a, .write .STY (.abs a), 0x8C),
    (.stzDir o, .write .STZ (.dir o), 0x64), (.stzDirX o, .write .STZ (.dirX o), 0x74),
    (.stzAbs a, .write .STZ (.abs a), 0x9C), (.stzAbsX a, .write .STZ (.absX a), 0x9E),
    (.cpxImm v, .read .CPX (.imm v), 0xE0), (.cpxDir o, .read .CPX (.mem (.dir o)), 0xE4),
    (.cpxAbs a, .read .CPX (.mem (.abs a)), 0xEC), (.cpyImm v, .read .CPY (.imm v), 0xC0),
    (.cpyDir o, .read .CPY (.mem (.dir o)), 0xC4), (.cpyAbs a, .read .CPY (.mem (.abs a)), 0xCC),
    (.bitImm v, .read .BIT (.imm v), 0x89), (.bitDir o, .read .BIT (.mem (.dir o)), 0x24),
    (.bitDirX o, .read .BIT (.mem (.dirX o)), 0x34), (.bitAbs a, .read .BIT (.mem (.abs a)), 0x2C),
    (.bitAbsX a, .read .BIT (.mem (.absX a)), 0x3C), (.trbDir o, .modify .TRB (.dir o), 0x14),
    (.trbAbs a, .modify .TRB (.abs a), 0x1C), (.tsbDir o, .modify .TSB (.dir o), 0x04),
    (.tsbAbs a, .modify .TSB (.abs a), 0x0C)]

/-- The encodings of the instructions that stand in no regular row and column and that no other statement encodes: mode `A`,
stack, jumps, calls, returns, system (R91, R97). -/
def singleEncodings (o1 o2 : Byte) (a : Word) (l : Addr) : List (Instr × List Byte) :=
  [(.aslAcc, [0x0A]), (.rolAcc, [0x2A]), (.lsrAcc, [0x4A]), (.rorAcc, [0x6A]), (.incAcc, [0x1A]), (.decAcc, [0x3A]),
    (.php, [0x08]), (.plp, [0x28]), (.pha, [0x48]), (.pla, [0x68]), (.phx, [0xDA]), (.plx, [0xFA]), (.phy, [0x5A]),
    (.ply, [0x7A]), (.phd, [0x0B]), (.pld, [0x2B]), (.phk, [0x4B]), (.phb, [0x8B]), (.plb, [0xAB]),
    (.pea a, [0xF4, loByte a, hiByte a]), (.pei o1, [0xD4, o1]), (.per a, [0x62, loByte a, hiByte a]),
    (.brl a, [0x82, loByte a, hiByte a]), (.jmpAbs a, [0x4C, loByte a, hiByte a]),
    (.jmpAbsInd a, [0x6C, loByte a, hiByte a]), (.jmpAbsXInd a, [0x7C, loByte a, hiByte a]),
    (.jmpLong l, [0x5C, loByte (addrOff l), hiByte (addrOff l), addrBank l]), (.jml a, [0xDC, loByte a, hiByte a]),
    (.jsrAbs a, [0x20, loByte a, hiByte a]), (.jsrAbsXInd a, [0xFC, loByte a, hiByte a]),
    (.jsl l, [0x22, loByte (addrOff l), hiByte (addrOff l), addrBank l]), (.rtl, [0x6B]), (.rti, [0x40]),
    (.brk o1, [0x00, o1]), (.cop o1, [0x02, o1]), (.mvn o1 o2, [0x54, o1, o2]), (.mvp o1 o2, [0x44, o1, o2]),
    (.rep o1, [0xC2, o1]), (.sep o1, [0xE2, o1]), (.stp, [0xDB]), (.wai, [0xCB])]

/-- The high operand byte JSR `(a,x)` fetches after its two pushes (R72, Table 9 20b): the pushed byte that lies over the
instruction's third byte, or else its own. -/
def lateHigh (s : State) (a : Word) : Byte :=
  let third := physAddr s.config.variant (mkAddr s.pbr (s.pc + 2))
  if third = physAddr s.config.variant (mkAddr 0 (s.sp - 1)) then loByte (s.pc + 2)
  else if third = physAddr s.config.variant (mkAddr 0 s.sp) then hiByte (s.pc + 2)
  else hiByte a

/-- Memory after these accesses, in order. -/
def afterAccesses (s : State) (xs : List Access) : Memory := xs.foldl (Access.apply s.config.variant) s.mem

/-- A read of data, pointer, stack or vector: not a fetch of the instruction itself. -/
def IsDataRead (x : Access) : Prop := x.written = none ∧ x.kind ≠ .opcode ∧ x.kind ≠ .operand

/-- The fetch of the `k`-th instruction byte. -/
def fetched (s : State) (k : Nat) : Access :=
  .read (if k = 0 then .opcode else .operand) (mkAddr s.pbr (s.pc + BitVec.ofNat 16 k))

/-- On the G65SC802 no ABORT is ever latched and no memory address above 16 bits is ever used (R7, R61). -/
def PartLimits (s : State) : Prop :=
  s.config.variant = .g65sc802 → s.abortPending = false ∧ ∀ cell ∈ s.mem, cell.1 < 2 ^ 16

end Sys2Proof.Claims

open Sys2Proof Sys2Proof.Machine Sys2Proof.Claims

/-! ### Encoding -/

/-- Decoding the bytes of a well-formed instruction gives it back, with every operand at every value and whatever
follows (R91 to R97). -/
def Obligations.DecodeOfEncode : Prop :=
  ∀ (m8 x8 : Bool) (i : Instr) (rest : List Byte), i.wf m8 x8 = true → decode m8 x8 (encode i ++ rest) = .ok (i, rest)

/-- Whatever the decoder accepts is the encoding of the well-formed instruction it answers, at most four bytes (R91 to
R97): no two readings of the same bytes, no bit dropped. -/
def Obligations.EncodeOfDecode : Prop :=
  ∀ (m8 x8 : Bool) (bytes : List Byte) (i : Instr) (rest : List Byte), decode m8 x8 bytes = .ok (i, rest) →
    encode i ++ rest = bytes ∧ i.wf m8 x8 = true ∧ (encode i).length = i.length ∧ i.length ≤ 4

/-- The opcode of every instruction, as the matrix of R97 has it: row base plus mode column for the accumulator operations
and the shifts, one opcode per mode for LDX, LDY, STX, STY, STZ, CPX, CPY, BIT, TRB and TSB, and one encoding each for mode
`A`, stack, jump, call, return and system instructions. Branches, flag instructions, index steps, NOP, opcode 42, transfers,
XCE, RTS and XBA are encoded in their own statements. -/
def Obligations.OpcodeMatrix : Prop :=
  (∀ (i : Instr) (op : Mnemonic) (m : MemMode) (base : Nat), accumulatorRow op = some base →
    (i.view = .read op (.mem m) ∨ i.view = .write op m) →
    (encode i).head? = some (BitVec.ofNat 8 (base + accumulatorColumn m)) ∧ accumulatorColumn m ≠ 0xFF) ∧
  (∀ (i : Instr) (op : Mnemonic) (v : Imm) (base : Nat), accumulatorRow op = some base →
    i.view = .read op (.imm v) → (encode i).head? = some (BitVec.ofNat 8 (base + 0x09))) ∧
  (∀ (i : Instr) (op : Mnemonic) (m : MemMode) (base : Nat), shiftRow op = some base → i.view = .modify op m →
    (encode i).head? = some (BitVec.ofNat 8 (base + shiftColumn m)) ∧ shiftColumn m ≠ 0xFF) ∧
  (∀ (v : Imm) (o : Byte) (a : Word), ∀ row ∈ irregularRows v o a,
    row.1.view = row.2.1 ∧ (encode row.1).head? = some row.2.2) ∧
  (∀ (o1 o2 : Byte) (a : Word) (l : Addr), ∀ row ∈ singleEncodings o1 o2 a l, encode row.1 = row.2)

/-- A few words of R97 written out, one for most layouts of R91, decode to their instructions. -/
def Obligations.SampleWordsDecode : Prop :=
  decode true true [0xA9, 0x34] = .ok (.ldaImm (.byte 0x34), []) ∧
  decode false true [0xA9, 0x34, 0x12] = .ok (.ldaImm (.word 0x1234), []) ∧
  decode true false [0xA2, 0x34, 0x12] = .ok (.ldxImm (.word 0x1234), []) ∧
  decode true true [0xBF, 0x56, 0x34, 0x12] = .ok (.ldaLongX 0x123456, []) ∧
  decode true true [0x54, 0x7F, 0x7E] = .ok (.mvn 0x7F 0x7E, []) ∧
  decode true true [0x42, 0xFF] = .ok (.reserved42 0xFF, []) ∧
  decode true true [0x20, 0x34, 0x12] = .ok (.jsrAbs 0x1234, []) ∧
  decode true true [0xFB] = .ok (.xce, [])

/-! ### Reset, invariants, the step -/

/-- The values R52 gives for reset stand in the reset state: nothing is said of what R52 marks not initialised (log
2), and of the latches it says what the spec decides (D12). -/
def Obligations.ResetValues : Prop :=
  State.reset.d = 0x0000 ∧ State.reset.dbr = 0x00 ∧ State.reset.pbr = 0x00 ∧ hiByte State.reset.sp = 0x01 ∧
  hiByte State.reset.x = 0x00 ∧ hiByte State.reset.y = 0x00 ∧ State.reset.p.m = true ∧ State.reset.p.x = true ∧
  State.reset.p.d = false ∧ State.reset.p.i = true ∧ State.reset.e = true ∧ State.reset.waiting = false ∧
  State.reset.stopped = false ∧ State.reset.nmiPending = false ∧ State.reset.abortPending = false ∧
  State.reset.pc = mkWord (State.reset.readByte 0x00FFFD) (State.reset.readByte 0x00FFFC)

/-- The reset state meets the invariants that every step keeps. -/
def Obligations.ResetMeetsInvariants : Prop :=
  State.reset.ModeInv ∧ State.reset.MemInv ∧ PartLimits State.reset

/-- Every step keeps the locked values of Emulation mode and the zero high bytes of 8-bit index registers (R22, R23,
R35; the Native half of R22 is the spec's decision D2, log 22). -/
def Obligations.StepKeepsModes : Prop :=
  ∀ s t : State, s.ModeInv → step s = .next t → t.ModeInv

/-- Every step keeps memory in its one canonical form, so equal memories are equal data (the model's own form, log 1).
-/
def Obligations.StepKeepsMemoryForm : Prop :=
  ∀ s t : State, s.MemInv → step s = .next t → t.MemInv

/-- Every step keeps the limits of the G65SC802: 16 address bits and no ABORT (R7, R61). -/
def Obligations.StepKeepsPartLimits : Prop :=
  ∀ s t : State, PartLimits s → step s = .next t → PartLimits t

/-- The processor never stops by itself: every step of every state has a next state (R97, R100, R310). -/
def Obligations.StepAlwaysHasNext : Prop :=
  ∀ s : State, ∃ t : State, step s = .next t

/-- Where the boundary reaches the instruction and its bytes stand at PBR:PC, the step is `exec` of that instruction, on
the state with this step's input taken off the list (R14, R91, R316 line 6; an IRQ with I = 1 changes nothing, R312). Only BRK,
COP and RTI have cycles behind the last abortable one, so only there a late ABORT is excluded (R314, Table 9 note 3). -/
def Obligations.StepRunsDecoded : Prop :=
  ∀ (s : State) (i : Instr), ReachesInstruction s → i.wf s.m8 s.x8 = true → s.HoldsAt s.pc (encode i) →
    (lateCount s = 0 ∨ i.mnemonic ∉ [.BRK, .COP, .RTI]) → step s = exec i (popped s)

/-- What happens between two steps lands before the boundary (R340, R80, R47): an SO edge sets V on the G65SC802 and
does nothing on the G65SC816; a byte another master writes is in memory; an NMI edge sets its latch while the clock
runs (D12). That SO lands between two steps is the spec's decision D22 (log 22). -/
def Obligations.EventsLandBeforeBoundary : Prop :=
  ∀ (s : State) (inp : StepInput) (rest : List StepInput), s.inputs = inp :: rest →
    (inp.soEdge = true → s.config.variant = .g65sc802 →
      step s = step { s with p := { s.p with v := true }, inputs := { inp with soEdge := false } :: rest }) ∧
    (inp.soEdge = true → s.config.variant = .g65sc816 →
      step s = step { s with inputs := { inp with soEdge := false } :: rest }) ∧
    (∀ (a : Addr) (v : Byte) (ws : List (Addr × Byte)), inp.busWrites = (a, v) :: ws →
      step s = step { s.writeByte a v with inputs := { inp with busWrites := ws } :: rest }) ∧
    (inp.nmiEdge = true → s.stopped = false →
      step s = step { s with nmiPending := true, inputs := { inp with nmiEdge := false } :: rest })

/-- RES resets the processor whatever it is doing, with the values of R351 and PC from the vector at 00FFFC, and
writes no memory; without RES a stopped processor stays as it is, but for an SO edge and other masters' writes (R315,
R331, R352). That an NMI edge while stopped sets no latch is the model's reading of R297 and R331 (log 12). -/
def Obligations.ResRestartsAndStopHolds : Prop :=
  (∀ s : State, s.input.res = true → ∃ t : State, step s = .next t ∧
    t.d = 0 ∧ t.dbr = 0 ∧ t.pbr = 0 ∧ hiByte t.sp = 1 ∧ hiByte t.x = 0 ∧ hiByte t.y = 0 ∧
    t.p.m = true ∧ t.p.x = true ∧ t.p.d = false ∧ t.p.i = true ∧ t.e = true ∧
    t.waiting = false ∧ t.stopped = false ∧ t.nmiPending = false ∧ t.abortPending = false ∧
    t.pc = mkWord (t.readByte 0x00FFFD) (t.readByte 0x00FFFC) ∧ t.config = s.config ∧
    (s.input.busWrites = [] → ∀ a, t.readByte a = s.readByte a)) ∧
  (∀ s : State, s.stopped = true → s.input.res = false → s.input.busWrites = [] →
    step s = .next { popped s with p := { s.p with v := s.p.v || (s.hasSo && s.input.soEdge) } })

/-- Where no ABORT is active in time, NMI is taken at the boundary whatever I is, and before an IRQ; an IRQ is taken when I is
0 (R312, R313, R316, R317). Both stack the address of the next instruction and enter by R320. The boundary as the place of
sampling and the one latch of NMI are the spec's decisions D11 and D12 (log 22). What a late ABORT then leaves of the sequence
is the model's reading of R314 (log 24). -/
def Obligations.HardwareInterruptsEnter : Prop :=
  ∀ s : State, OnlyLines s.input → s.input.res = false → s.aborted s.input = false → s.stopped = false →
    s.waiting = false →
    (s.nmiPending = true → ∃ t : State, step s = .next t ∧ EntersUnder (lateCount s) .nmi s.pc (popped s) t) ∧
    (s.nmiPending = false → s.input.irqLow = true → s.p.i = false →
      ∃ t : State, step s = .next t ∧ EntersUnder (lateCount s) .irq s.pc (popped s) t)

/-- Every step of a waiting processor without RES (R299, R332, R333): it stays when nothing wakes it, latching an ABORT;
NMI and unmasked IRQ enter their handlers with the address after WAI, a masked IRQ or a forced RDY lets execution go on;
and a latched ABORT is taken first, with the address of the WAI opcode (D20, log 23). What a late ABORT leaves of the sequence
that ends the wait is the model's reading of R314 (log 24). -/
def Obligations.WaitingSteps : Prop :=
  ∀ s : State, s.waiting = true → s.stopped = false → OnlyLines s.input → s.input.res = false →
    let latched := s.abortPending || (s.hasAbort && s.input.abort)
    let woken := { popped s with waiting := false, abortPending := latched }
    (s.nmiPending = false ∧ s.input.irqLow = false ∧ s.input.rdyForcedHigh = false →
      step s = .next { popped s with abortPending := latched }) ∧
    (s.nmiPending = true ∨ s.input.irqLow = true ∨ s.input.rdyForcedHigh = true →
      (s.hasAbort = true ∧ latched = true → ∃ t : State, step s = .next t ∧ EntersUnder (lateCount s) .abort (s.pc - 1) woken t) ∧
      (¬(s.hasAbort = true ∧ latched = true) →
        (s.nmiPending = true → ∃ t : State, step s = .next t ∧ EntersUnder (lateCount s) .nmi s.pc woken t) ∧
        (s.nmiPending = false → s.input.irqLow = true → s.p.i = false →
          ∃ t : State, step s = .next t ∧ EntersUnder (lateCount s) .irq s.pc woken t) ∧
        (s.nmiPending = false → ¬(s.input.irqLow = true ∧ s.p.i = false) → step s = .next woken)))

/-- An ABORT on the G65SC816, asserted in time in this step or latched before, discards every register change of the
instruction at PBR:PC, keeps its memory writes only if the parameter ABORT_WRITES (log 5) says so, and enters the ABORT handler
with the address of the aborted opcode (R314), before an NMI or IRQ of the same boundary, which stay pending (R317). That this
is so where NMI or IRQ is due or the ABORT was latched is the model's reading (log 10), also that WAI and STP are discarded
like any other instruction (log 11). An ABORT behind the last abortable cycle of BRK, COP or RTI is too late to protect P, PBR
and DBR (R314): they are updated, every other register keeps its value but for XH and YH under a new X = 1, and the ABORT
handler is entered with the address of that opcode. What else it leaves, and what further late ABORTs leave of the ABORT
sequence, is the model's reading (log 24). -/
def Obligations.AbortDiscardsInstruction : Prop :=
  ∀ (s : State) (i : Instr), s.config.variant = .g65sc816 → i.wf s.m8 s.x8 = true → s.HoldsAt s.pc (encode i) →
    (OnlyLines s.input → s.input.res = false → s.stopped = false → s.waiting = false →
      (s.input.abort = true ∨ s.abortPending = true) →
      ∃ u t : State, exec i (popped s) = .next u ∧ step s = .next t ∧
        EntersUnder s.input.lateAborts .abort s.pc
          { popped s with mem := if s.config.abortWrites then u.mem else s.mem } t) ∧
    (∀ n : Nat, ReachesInstruction s → s.input.lateAborts = n + 1 → i.mnemonic ∈ [.BRK, .COP, .RTI] →
      ∃ u t : State, exec i (popped s) = .next u ∧ step s = .next t ∧
        EntersUnder n .abort s.pc (leftLate (popped s) u) t)

/-- Every interrupt returns where it was taken: RTI after the sequence restores P, PC, S, X, Y and in Native mode PBR;
in Emulation mode PBR is 00 (R277, R320, R325, R326). No stacked byte lies over another, and memory keeps what was
stacked. That the pulled bits 5 and 4 are ignored in Emulation mode is the spec's decision D23 (log 22). -/
def Obligations.InterruptThenRtiResumes : Prop :=
  ∀ (s : State) (k : Interrupt) (r : Word), s.ModeInv →
    exec .rti (s.takeInterrupt k r) =
      .next { s with
        pc := r
        pbr := if s.e then 0 else s.pbr
        mem := (s.takeInterrupt k r).mem
        nmiPending := if k = .nmi then false else s.nmiPending
        abortPending := if k = .abort then false else s.abortPending }

/-! ### Who writes what -/

/-- R279: PBR changes only by JMP `al`, JML, JSL, RTL, RTI in Native mode, an interrupt sequence, which makes it 00, and
reset; in the first part `brk` and `cop` are the instructions that are such a sequence. -/
def Obligations.ProgramBankWriters : Prop :=
  (∀ (i : Instr) (s t : State), exec i s = .next t → t.pbr ≠ s.pbr →
    (∃ a, i = .jmpLong a) ∨ (∃ a, i = .jml a) ∨ (∃ a, i = .jsl a) ∨ i = .rtl ∨ (i = .rti ∧ s.e = false) ∨
      (((∃ b, i = .brk b) ∨ (∃ b, i = .cop b)) ∧ t.pbr = 0)) ∧
  (∀ s t : State, step s = .next t → t.pbr ≠ s.pbr →
    (s.input.res = true ∧ t.pbr = 0) ∨
    (∃ k r u, (k = .nmi ∨ k = .irq ∨ k = .abort) ∧ t = State.takeInterrupt u k r ∧ t.pbr = 0) ∨
    (∃ i, (s.takeEvents s.input).fetch = .ok i ∧ exec i (s.takeEvents s.input) = .next t))

/-- Only XCE among the instructions, and RES among the events, changes E; no interrupt sequence does (R33, R315,
R322). -/
def Obligations.EmulationFlagWriters : Prop :=
  (∀ (i : Instr) (s t : State), exec i s = .next t → t.e ≠ s.e → i = .xce) ∧
  (∀ (k : Interrupt) (r : Word) (s : State), (s.takeInterrupt k r).e = s.e) ∧
  (∀ s t : State, step s = .next t → t.e ≠ s.e →
    (s.input.res = true ∧ t.e = true) ∨
      ((s.takeEvents s.input).fetch = .ok .xce ∧ exec .xce (s.takeEvents s.input) = .next t))

/-- The instructions that can change each register but PC, each flag and each latch: any other leaves it alone (R24, R25, R36
to R43, R46, R54, R279). No instruction touches the latches, the parameters, the inputs, the counter of free values or the note of the last step's M and X. -/
def Obligations.RegisterWriters : Prop :=
  ∀ (i : Instr) (s t : State), exec i s = .next t →
    (t.d ≠ s.d → i.mnemonic ∈ [.TCD, .PLD]) ∧
    (t.dbr ≠ s.dbr → i.mnemonic ∈ [.PLB, .MVN, .MVP]) ∧
    (t.x ≠ s.x → i.mnemonic ∈ [.LDX, .DEX, .INX, .PLX, .TAX, .TSX, .TYX, .MVN, .MVP, .PLP, .RTI, .SEP, .XCE]) ∧
    (t.y ≠ s.y → i.mnemonic ∈ [.LDY, .DEY, .INY, .PLY, .TAY, .TXY, .MVN, .MVP, .PLP, .RTI, .SEP, .XCE]) ∧
    (t.c ≠ s.c → i.mnemonic ∈ [.LDA, .ADC, .SBC, .AND, .ORA, .EOR, .ASL, .LSR, .ROL, .ROR, .INC, .DEC, .PLA, .TXA,
      .TYA, .TDC, .TSC, .XBA, .MVN, .MVP]) ∧
    (t.sp ≠ s.sp → i.mnemonic ∈ [.PEA, .PEI, .PER, .PHA, .PHB, .PHD, .PHK, .PHP, .PHX, .PHY, .PLA, .PLB, .PLD, .PLP,
      .PLX, .PLY, .TCS, .TXS, .XCE, .JSR, .JSL, .RTS, .RTL, .RTI, .BRK, .COP]) ∧
    (t.p.m ≠ s.p.m → i.mnemonic ∈ [.PLP, .RTI, .REP, .SEP, .XCE]) ∧
    (t.p.x ≠ s.p.x → i.mnemonic ∈ [.PLP, .RTI, .REP, .SEP, .XCE]) ∧
    (t.p.d ≠ s.p.d → i.mnemonic ∈ [.SED, .CLD, .PLP, .RTI, .REP, .SEP, .BRK, .COP]) ∧
    (t.p.i ≠ s.p.i → i.mnemonic ∈ [.SEI, .CLI, .PLP, .RTI, .REP, .SEP, .BRK, .COP]) ∧
    (t.p.v ≠ s.p.v → i.mnemonic ∈ [.ADC, .SBC, .BIT, .CLV, .PLP, .RTI, .REP, .SEP]) ∧
    (t.p.n ≠ s.p.n → i.mnemonic ∈ resultMnemonics ++ [.LSR, .BIT, .PLP, .RTI, .REP, .SEP]) ∧
    (t.p.z ≠ s.p.z → i.mnemonic ∈ resultMnemonics ++ [.LSR, .BIT, .TRB, .TSB, .PLP, .RTI, .REP, .SEP]) ∧
    (t.p.c ≠ s.p.c → i.mnemonic ∈ [.ADC, .SBC, .ASL, .LSR, .ROL, .ROR, .CMP, .CPX, .CPY, .CLC, .SEC, .PLP, .RTI, .REP,
      .SEP, .XCE]) ∧
    (t.pbr ≠ s.pbr → i.mnemonic ∈ [.JMP, .JML, .JSL, .RTL, .RTI, .BRK, .COP]) ∧ (t.e ≠ s.e → i = .xce) ∧
    (t.waiting ≠ s.waiting → i = .wai) ∧ (t.stopped ≠ s.stopped → i = .stp) ∧
    t.nmiPending = s.nmiPending ∧ t.abortPending = s.abortPending ∧ t.config = s.config ∧ t.inputs = s.inputs ∧
    t.freeCount = s.freeCount ∧ t.lastM = s.lastM ∧ t.lastX = s.lastX

/-- An instruction that is no store, no read-modify-write of memory, no push, no call, no trap and no block move leaves
every byte of memory as it was; so do the accumulator forms (R158, R171, R189, R223). -/
def Obligations.OnlyStoresWriteMemory : Prop :=
  ∀ (i : Instr) (s t : State), exec i s = .next t → (i.mnemonic ∉ storingMnemonics ∨ ∃ op, i.view = .acc op) →
    ∀ a : Addr, t.readByte a = s.readByte a

/-! ### The bus -/

/-- What is written on the bus is what memory holds: memory after an instruction, and after a step, is memory before with the
write accesses applied in bus order, the aborted instruction's as ABORT_WRITES says and none in reset (R72, R73, R314,
R352). -/
def Obligations.BusWritesMakeMemory : Prop :=
  (∀ (i : Instr) (s t : State), exec i s = .next t → t.mem = afterAccesses s (s.instrAccesses i)) ∧
  (∀ s t : State, step s = .next t → t.mem = afterAccesses (s.takeEvents s.input) s.stepAccesses)

/-- What an instruction does depends on memory only through the data reads listed on the bus: with another memory that agrees
on those bytes, the registers end the same and the accesses are the same (R72, R74). -/
def Obligations.BusReadsDecideResult : Prop :=
  ∀ (i : Instr) (s : State) (m : Memory),
    (∀ x ∈ s.instrAccesses i, IsDataRead x →
      m.read (physAddr s.config.variant x.addr) = s.mem.read (physAddr s.config.variant x.addr)) →
    ∃ t u : State, exec i s = .next t ∧ exec i { s with mem := m } = .next u ∧ u = { t with mem := u.mem } ∧
      State.instrAccesses { s with mem := m } i = s.instrAccesses i

/-- The bus order of R72 and R73 in its characteristic cases, for all operands. For mode `a` only: a 16-bit load and store,
low byte first; INC, with ML low on all of its data accesses, 16 bits wide (high byte back first), 8 bits wide in Native mode
(the result alone) and in Emulation mode (the old value first). Then JSR `(a,x)`, RTI, BRK, COP and the interrupt sequence,
and the pins of each kind of access on each part (R3, R322, R345). The write-back order is the spec's decision D21 (log 22).
That JSR `(a,x)` takes a pushed byte that lies over its third byte is the model's reading of R72 (log 13), internal cycles
are left out (log 15), VDA and VPA of data reads are the model's reading, and those of the table of `(a,x)` are free (log
27). -/
def Obligations.BusOrderAndPins : Prop :=
  (∀ (s : State) (a : Word), s.m8 = false →
    let p := Place.long (mkAddr s.dbr a)
    let code := [fetched s 0, fetched s 1, fetched s 2]
    s.instrAccesses (.ldaAbs a) = code ++ [.read .data p.first, .read .data p.second] ∧
    s.instrAccesses (.staAbs a) = code ++ [.write p.first (loByte s.c), .write p.second (hiByte s.c)] ∧
    s.instrAccesses (.incAbs a) = code ++ [(Access.read .data p.first).lock, (Access.read .data p.second).lock,
      (Access.write p.second (hiByte (s.load16 p + 1))).lock, (Access.write p.first (loByte (s.load16 p + 1))).lock]) ∧
  (∀ (s : State) (a : Word), s.e = false → s.p.m = true →
    let p := mkAddr s.dbr a
    s.instrAccesses (.incAbs a) = [fetched s 0, fetched s 1, fetched s 2, (Access.read .data p).lock,
      (Access.write p (s.readByte p + 1)).lock]) ∧
  (∀ (s : State) (a : Word), s.e = true →
    let p := mkAddr s.dbr a
    s.instrAccesses (.incAbs a) = [fetched s 0, fetched s 1, fetched s 2, (Access.read .data p).lock,
      (Access.write p (s.readByte p)).lock, (Access.write p (s.readByte p + 1)).lock]) ∧
  (∀ (s : State) (a : Word),
    let p := mkWord (lateHigh s a) (loByte a) + s.x
    s.instrAccesses (.jsrAbsXInd a) = [fetched s 0, fetched s 1, .write (mkAddr 0 s.sp) (hiByte (s.pc + 2)),
      .write (mkAddr 0 (s.sp - 1)) (loByte (s.pc + 2)), fetched s 2, .read .table (mkAddr s.pbr p),
      .read .table (mkAddr s.pbr (p + 1))]) ∧
  (∀ s : State, s.instrAccesses .rti
    = fetched s 0 :: (List.range (if s.e then 3 else 4)).map (fun n => .read .data (mkAddr 0 (up s (n + 1))))) ∧
  (∀ (s : State) (k : Interrupt) (r : Word), s.interruptAccesses k r
    = ((((if s.e then [] else [s.pbr]) ++
          [hiByte r, loByte r, statusByte s (decide (k = .brk ∨ k = .cop))]).zipIdx).map
        (fun q => .write (mkAddr 0 (down s q.2)) q.1)) ++
      [.read .vector (vectorAddr k s.e), .read .vector (vectorAddr k s.e + 1)]) ∧
  (∀ (s : State) (sig : Byte),
    s.instrAccesses (.brk sig) = [fetched s 0, fetched s 1] ++ s.interruptAccesses .brk (s.pc + 2) ∧
    s.instrAccesses (.cop sig) = [fetched s 0, fetched s 1] ++ s.interruptAccesses .cop (s.pc + 2)) ∧
  (∀ (s : State) (mx : Bool × Bool) (x : Access),
    let pins := s.accessPins mx x
    pins.rw = x.written.isNone ∧
    (s.config.variant = .g65sc816 →
      pins = { pins with
        sync := none, vp := some (decide (x.kind ≠ .vector)), ml := some (!x.locked)
        e := some s.e, m := some mx.1, x := some mx.2 } ∧
      (x.kind = .opcode → pins.vda = some true ∧ pins.vpa = some true) ∧
      (x.kind = .operand → pins.vda = some false ∧ pins.vpa = some true) ∧
      (x.kind = .data ∨ x.kind = .vector → pins.vda = some true ∧ pins.vpa = some false)) ∧
    (s.config.variant = .g65sc802 →
      pins = { pins with
        sync := some (decide (x.kind = .opcode)), vda := none, vpa := none, m := none, x := none
        vp := if s.config.pins44 then some (decide (x.kind ≠ .vector)) else none
        ml := if s.config.pins44 then some (!x.locked) else none
        e := if s.config.pins44 then some s.e else none }))

/-- E and M/X show the flags (R45): E in every access of a step, M/X in every access outside the cycles where a change of M or
X may leave it invalid, in which nothing is said of it (U5, R362 (d)). That E stands through every access of a step as before
it, or as reset makes it in a reset step, is the model's reading (log 27). Which cycles are left out is the model's choice: the
first access of a step after one that changed M or X, and from the third access on in a step that changes them; M or X counts
as just changed after such a step, but not after reset, which shows M/X = 1 while RES is low (R351; log 28). M/X is an output
of the G65SC816 alone, E also of the G65SC802 in 44 pins (R3), the package a parameter of the model (log 26). -/
def Obligations.StatusOutputs : Prop :=
  (∀ (s : State) (n : Nat) (c : BusCycle), s.config.variant = .g65sc816 → s.stepCycles[n]? = some c →
    (s.input.res = true → c.pins.e = some true ∧ c.pins.m = some true ∧ c.pins.x = some true) ∧
    (s.input.res = false → c.pins.e = some s.e ∧
      (∀ t : State, step s = .next t → (n = 0 → s.lastM = s.p.m ∧ s.lastX = s.p.x) →
        (2 ≤ n → t.p.m = s.p.m ∧ t.p.x = s.p.x) → c.pins.m = some s.p.m ∧ c.pins.x = some s.p.x))) ∧
  (∀ s : State, s.config.variant = .g65sc816 → s.pinE = some s.e ∧
    (s.lastM = s.p.m → s.lastX = s.p.x → s.pinM = some s.p.m ∧ s.pinX = some s.p.x)) ∧
  (∀ s : State, s.config.variant = .g65sc802 → s.pinM = none ∧ s.pinX = none ∧
    s.pinE = if s.config.pins44 then some s.e else none) ∧
  (∀ s t : State, step s = .next t →
    (s.input.res = true → t.mxJustChanged = false) ∧
    (s.input.res = false → (t.mxJustChanged = true ↔ t.p.m ≠ s.p.m ∨ t.p.x ≠ s.p.x)))

/-! ### Operands -/

/-- The effective addresses of the absolute and long modes (R117 to R121), the bytes an operand is made of (R62, R150),
and the address the memory system sees on each part (R61). The wraps of R67 and R69 are the spec's decisions D4 and D5
(log 22). -/
def Obligations.AbsoluteAddressesAndOperands : Prop :=
  (∀ (s : State) (a : Word) (l : Addr),
    s.place (.abs a) = .long (mkAddr s.dbr a) ∧
    s.place (.absX a) = .long (BitVec.ofNat 24 (s.dbr.toNat * 65536 + a.toNat + s.x.toNat)) ∧
    s.place (.absY a) = .long (BitVec.ofNat 24 (s.dbr.toNat * 65536 + a.toNat + s.y.toNat)) ∧
    s.place (.long l) = .long l ∧
    s.place (.longX l) = .long (BitVec.ofNat 24 (l.toNat + s.x.toNat))) ∧
  (∀ (s : State) (m : MemMode),
    s.operand8 (.mem m) = s.readByte (s.place m).first ∧
    (s.operand16 (.mem m)).toNat
      = (s.readByte (s.place m).first).toNat + 256 * (s.readByte (s.place m).second).toNat) ∧
  (∀ (s : State) (v : Byte) (w : Word), s.operand8 (.imm (.byte v)) = v ∧ s.operand16 (.imm (.word w)) = w) ∧
  (∀ (l : Addr) (w : Word),
    (Place.long l).second = BitVec.ofNat 24 (l.toNat + 1) ∧
    (Place.bank0 w).second = BitVec.ofNat 24 ((w.toNat + 1) % 65536)) ∧
  (∀ (a : Addr), physAddr .g65sc816 a = a.toNat ∧ physAddr .g65sc802 a = a.toNat % 65536)

/-- The effective addresses of the direct modes without a pointer, and of `d,s`: within bank 00, and within the page
while E = 1 and DL = 00 (R113, R122 to R124, R135; the case E = 1 with DL not 00 is the spec's decision D6, log 22).
-/
def Obligations.DirectAddresses : Prop :=
  ∀ (s : State) (o : Byte),
    s.place (.dir o) = .bank0 (BitVec.ofNat 16 (s.d.toNat + o.toNat)) ∧
    s.place (.stkRel o) = .bank0 (BitVec.ofNat 16 (s.sp.toNat + o.toNat)) ∧
    (s.e = true → s.d.toNat % 256 = 0 →
      s.place (.dirX o) = .bank0 (BitVec.ofNat 16 (s.d.toNat + (o.toNat + s.x.toNat) % 256)) ∧
      s.place (.dirY o) = .bank0 (BitVec.ofNat 16 (s.d.toNat + (o.toNat + s.y.toNat) % 256))) ∧
    (s.e = false ∨ s.d.toNat % 256 ≠ 0 →
      s.place (.dirX o) = .bank0 (BitVec.ofNat 16 (s.d.toNat + o.toNat + s.x.toNat)) ∧
      s.place (.dirY o) = .bank0 (BitVec.ofNat 16 (s.d.toNat + o.toNat + s.y.toNat)))

/-- The effective addresses of the modes that read a pointer (R113, R125 to R129, R136). `p` is the pointer's address;
its second byte stays in the page while E = 1 and DL = 00, but not for the three-byte pointers and `(d,s),y`.
The case E = 1 with DL not 00 is the spec's decision D6, the wrap within bank 00 is D4 (log 22). -/
def Obligations.IndirectAddresses : Prop :=
  ∀ (s : State) (o : Byte),
    let byteAt (n : Nat) : Nat := (s.readByte (BitVec.ofNat 24 (n % 65536))).toNat
    let wrapped : Bool := s.e && decide (s.d.toNat % 256 = 0)
    let next (p : Nat) : Nat := if wrapped then p / 256 * 256 + (p + 1) % 256 else (p + 1) % 65536
    let word (p : Nat) : Nat := byteAt p + 256 * byteAt (next p)
    let far (p : Nat) : Nat := byteAt p + 256 * byteAt (p + 1) + 65536 * byteAt (p + 2)
    let p := (s.d.toNat + o.toNat) % 65536
    let px := if wrapped then s.d.toNat + (o.toNat + s.x.toNat) % 256 else (s.d.toNat + o.toNat + s.x.toNat) % 65536
    let ps := (s.sp.toNat + o.toNat) % 65536
    s.place (.dirInd o) = .long (BitVec.ofNat 24 (65536 * s.dbr.toNat + word p)) ∧
    s.place (.dirXInd o) = .long (BitVec.ofNat 24 (65536 * s.dbr.toNat + word px)) ∧
    s.place (.dirIndY o) = .long (BitVec.ofNat 24 (65536 * s.dbr.toNat + word p + s.y.toNat)) ∧
    s.place (.dirIndLong o) = .long (BitVec.ofNat 24 (far p)) ∧
    s.place (.dirIndLongY o) = .long (BitVec.ofNat 24 (far p + s.y.toNat)) ∧
    s.place (.stkRelIndY o) =
      .long (BitVec.ofNat 24 (65536 * s.dbr.toNat + byteAt ps + 256 * byteAt (ps + 1) + s.y.toNat))

/-! ### Load and store -/

/-- LDA, in all 15 forms, loads A or C, LDX and LDY load their register at the index width, and N and Z are set from it (R151
to R153): ldaImm, ldaDir, ldaDirX, ldaDirInd, ldaDirXInd, ldaDirIndY, ldaDirIndLong, ldaDirIndLongY, ldaAbs, ldaAbsX, ldaAbsY,
ldaLong, ldaLongX, ldaStkRel, ldaStkRelIndY, ldxImm, ldxDir, ldxDirY, ldxAbs, ldxAbsY, ldyImm, ldyDir, ldyDirX, ldyAbs,
ldyAbsX. -/
def Obligations.LoadsLoad : Prop :=
  ∀ (i : Instr) (s : State) (src : Src), i.wf s.m8 s.x8 = true →
    let v := if s.x8 then zext16 (s.operand8 src) else s.operand16 src
    (i.view = .read .LDA src → exec i s = .next (accResult s i (s.operand8 src, nz s.p 8 (s.operand8 src).toNat)
      (s.operand16 src, nz s.p 16 (s.operand16 src).toNat))) ∧
    (i.view = .read .LDX src → exec i s = .next { s with pc := past s i, x := v, p := indexFlags s v }) ∧
    (i.view = .read .LDY src → exec i s = .next { s with pc := past s i, y := v, p := indexFlags s v })

/-- STA, STX, STY and STZ, in all their forms, store one byte or two at the effective address and change nothing else
but PC (R154 to R157): staDir, staDirX, staDirInd, staDirXInd, staDirIndY, staDirIndLong, staDirIndLongY, staAbs,
staAbsX, staAbsY, staLong, staLongX, staStkRel, staStkRelIndY, stxDir, stxDirY, stxAbs, styDir, styDirX, styAbs,
stzDir, stzDirX, stzAbs, stzAbsX. -/
def Obligations.StoresStore : Prop :=
  ∀ (i : Instr) (s : State) (op : Mnemonic) (m : MemMode), i.view = .write op m →
    op ∈ [.STA, .STX, .STY, .STZ] ∧
    ∃ t : State, exec i s = .next t ∧ t = { s with pc := past s i, mem := t.mem } ∧
      Writes s t (storedBytes s m (if op = .STX ∨ op = .STY then s.x8 else s.m8) (storeSource s op))

/-! ### Arithmetic and logic -/

/-- Binary ADC in all 15 forms (R160, R161): sum, carry, signed overflow, N and Z: adcImm, adcDir, adcDirX, adcDirInd,
adcDirXInd, adcDirIndY, adcDirIndLong, adcDirIndLongY, adcAbs, adcAbsX, adcAbsY, adcLong, adcLongX, adcStkRel,
adcStkRelIndY. -/
def Obligations.AdcBinary : Prop :=
  ∀ (i : Instr) (s : State) (src : Src), i.view = .read .ADC src → i.wf s.m8 s.x8 = true → s.p.d = false →
    exec i s = .next (accResult s i (adcBinary s.a8 (s.operand8 src) s.p) (adcBinary s.c (s.operand16 src) s.p))

/-- Binary SBC in all 15 forms (R162): difference with borrow, not-borrow in C, signed overflow, N and Z: sbcImm,
sbcDir, sbcDirX, sbcDirInd, sbcDirXInd, sbcDirIndY, sbcDirIndLong, sbcDirIndLongY, sbcAbs, sbcAbsX, sbcAbsY, sbcLong,
sbcLongX, sbcStkRel, sbcStkRelIndY. -/
def Obligations.SbcBinary : Prop :=
  ∀ (i : Instr) (s : State) (src : Src), i.view = .read .SBC src → i.wf s.m8 s.x8 = true → s.p.d = false →
    exec i s = .next (accResult s i (sbcBinary s.a8 (s.operand8 src) s.p) (sbcBinary s.c (s.operand16 src) s.p))

/-- Decimal ADC and SBC of valid BCD operands (R163 (a), (b)); nothing is said of V, which is a free value (log 9). -/
def Obligations.DecimalOfValidBcd : Prop :=
  ∀ (i : Instr) (s : State) (src : Src), i.wf s.m8 s.x8 = true → s.p.d = true →
    (s.m8 = true → IsBcd 8 s.a8.toNat ∧ IsBcd 8 (s.operand8 src).toNat) →
    (s.m8 = false → IsBcd 16 s.c.toNat ∧ IsBcd 16 (s.operand16 src).toNat) →
    (i.view = .read .ADC src → ∃ v : Bool,
      exec i s = .next (accResult s i (adcDecimal s.a8 (s.operand8 src) s.p v) (adcDecimal s.c (s.operand16 src) s.p v))) ∧
    (i.view = .read .SBC src → ∃ v : Bool,
      exec i s = .next (accResult s i (sbcDecimal s.a8 (s.operand8 src) s.p v) (sbcDecimal s.c (s.operand16 src) s.p v)))

/-- Decimal ADC and SBC complete on any operands: some result, carry and V (free values, R163 (c), log 9), N and Z from
that result, and nothing else changed. -/
def Obligations.DecimalAlwaysCompletes : Prop :=
  ∀ (i : Instr) (s : State) (src : Src), (i.view = .read .ADC src ∨ i.view = .read .SBC src) → s.p.d = true →
    ∃ (r8 : Byte) (r16 : Word) (c v : Bool),
      exec i s = .next (accResult s i (r8, { nz s.p 8 r8.toNat with c := c, v := v })
        (r16, { nz s.p 16 r16.toNat with c := c, v := v }))

/-- AND, ORA and EOR in all their 45 forms (R164 to R166): andImm, andDir, andDirX, andDirInd, andDirXInd, andDirIndY,
andDirIndLong, andDirIndLongY, andAbs, andAbsX, andAbsY, andLong, andLongX, andStkRel, andStkRelIndY, oraImm, oraDir,
oraDirX, oraDirInd, oraDirXInd, oraDirIndY, oraDirIndLong, oraDirIndLongY, oraAbs, oraAbsX, oraAbsY, oraLong,
oraLongX, oraStkRel, oraStkRelIndY, eorImm, eorDir, eorDirX, eorDirInd, eorDirXInd, eorDirIndY, eorDirIndLong,
eorDirIndLongY, eorAbs, eorAbsX, eorAbsY, eorLong, eorLongX, eorStkRel, eorStkRelIndY. -/
def Obligations.LogicalOperations : Prop :=
  ∀ (i : Instr) (s : State) (op : Mnemonic) (src : Src), op ∈ [.AND, .ORA, .EOR] → i.view = .read op src →
    i.wf s.m8 s.x8 = true →
    let r8 := logical op s.a8 (s.operand8 src)
    let r16 := logical op s.c (s.operand16 src)
    exec i s = .next (accResult s i (r8, nz s.p 8 r8.toNat) (r16, nz s.p 16 r16.toNat))

/-- CMP in its 15 forms, CPX and CPY in three each: C is register >= operand, N and Z come from the difference, no
register changes (R167, R169, R170): cmpImm, cmpDir, cmpDirX, cmpDirInd, cmpDirXInd, cmpDirIndY, cmpDirIndLong,
cmpDirIndLongY, cmpAbs, cmpAbsX, cmpAbsY, cmpLong, cmpLongX, cmpStkRel, cmpStkRelIndY, cpxImm, cpxDir, cpxAbs, cpyImm,
cpyDir, cpyAbs. -/
def Obligations.Compares : Prop :=
  ∀ (i : Instr) (s : State) (src : Src), i.wf s.m8 s.x8 = true →
    (i.view = .read .CMP src →
      exec i s = .next (accFlags s i (compared 8 s.a8.toNat (s.operand8 src).toNat s.p)
        (compared 16 s.c.toNat (s.operand16 src).toNat s.p))) ∧
    (i.view = .read .CPX src →
      exec i s = .next { s with
        pc := past s i
        p := if s.x8 then compared 8 (loByte s.x).toNat (s.operand8 src).toNat s.p
          else compared 16 s.x.toNat (s.operand16 src).toNat s.p }) ∧
    (i.view = .read .CPY src →
      exec i s = .next { s with
        pc := past s i
        p := if s.x8 then compared 8 (loByte s.y).toNat (s.operand8 src).toNat s.p
          else compared 16 s.y.toNat (s.operand16 src).toNat s.p })

/-- BIT: Z from the AND with the accumulator; N and V are the two top bits of a memory operand and stay as they are
with an immediate (R168): bitImm, bitDir, bitDirX, bitAbs, bitAbsX. -/
def Obligations.BitTests : Prop :=
  (∀ (i : Instr) (s : State) (v : Imm), i.view = .read .BIT (.imm v) → i.wf s.m8 s.x8 = true →
    exec i s = .next (accFlags s i
      { s.p with z := decide (s.a8.toNat &&& (s.operand8 (.imm v)).toNat = 0) }
      { s.p with z := decide (s.c.toNat &&& (s.operand16 (.imm v)).toNat = 0) })) ∧
  (∀ (i : Instr) (s : State) (m : MemMode), i.view = .read .BIT (.mem m) →
    exec i s = .next (accFlags s i
      { s.p with
        z := decide (s.a8.toNat &&& (s.operand8 (.mem m)).toNat = 0)
        n := (s.operand8 (.mem m)).toNat.testBit 7
        v := (s.operand8 (.mem m)).toNat.testBit 6 }
      { s.p with
        z := decide (s.c.toNat &&& (s.operand16 (.mem m)).toNat = 0)
        n := (s.operand16 (.mem m)).toNat.testBit 15
        v := (s.operand16 (.mem m)).toNat.testBit 14 }))

/-! ### Read-modify-write -/

/-- The accumulator forms aslAcc, rolAcc, lsrAcc, rorAcc, incAcc, decAcc (R180 to R186): at 8 bits B keeps its value. -/
def Obligations.AccumulatorModifies : Prop :=
  ∀ (i : Instr) (s : State) (op : Mnemonic), i.view = .acc op →
    op ∈ [.ASL, .ROL, .LSR, .ROR, .INC, .DEC] ∧
    exec i s = .next (accResult s i
      (BitVec.ofNat 8 (modified op 8 s.a8.toNat s.a8.toNat s.p).1, (modified op 8 s.a8.toNat s.a8.toNat s.p).2)
      (BitVec.ofNat 16 (modified op 16 s.c.toNat s.c.toNat s.p).1, (modified op 16 s.c.toNat s.c.toNat s.p).2))

/-- The memory forms of ASL, ROL, LSR, ROR, INC, DEC (`d`, `d,x`, `a`, `a,x`) and TRB, TSB (`d`, `a`), 28 in all (R180
to R188): the operand at the effective address is replaced, flags as each rule says, every other byte of memory as
before: aslDir, aslDirX, aslAbs, aslAbsX, rolDir, rolDirX, rolAbs, rolAbsX, lsrDir, lsrDirX, lsrAbs, lsrAbsX, rorDir,
rorDirX, rorAbs, rorAbsX, incDir, incDirX, incAbs, incAbsX, decDir, decDirX, decAbs, decAbsX, trbDir, trbAbs, tsbDir,
tsbAbs. -/
def Obligations.MemoryModifies : Prop :=
  ∀ (i : Instr) (s : State) (op : Mnemonic) (m : MemMode), i.view = .modify op m →
    op ∈ [.ASL, .ROL, .LSR, .ROR, .INC, .DEC, .TRB, .TSB] ∧
    ∃ t : State, exec i s = .next t ∧
      let r := if s.m8 then modified op 8 s.a8.toNat (s.load8 (s.place m)).toNat s.p
        else modified op 16 s.c.toNat (s.load16 (s.place m)).toNat s.p
      t = { s with pc := past s i, p := r.2, mem := t.mem } ∧
        Writes s t (storedBytes s m s.m8 (BitVec.ofNat 16 r.1))

/-! ### Branches, flags, index steps, no operation -/

/-- The nine short branches bcc, bcs, beq, bmi, bne, bpl, bra, bvc, bvs and their encodings (R190 to R199): the
displacement is signed, counts from the next instruction, and wraps within the bank; nothing but PC changes. -/
def Obligations.ShortBranches : Prop :=
  (∀ (i : Instr) (s : State) (op : Mnemonic) (r : Byte), i.view = .branch op r →
    exec i s = .next { s with
      pc := if branchTaken op s.p then BitVec.ofInt 16 (s.pc.toNat + 2 + r.toInt)
        else BitVec.ofNat 16 (s.pc.toNat + 2) }) ∧
  (∀ r : Byte,
    (encode (.bcc r) = [0x90, r] ∧ (Instr.bcc r).view = .branch .BCC r) ∧
    (encode (.bcs r) = [0xB0, r] ∧ (Instr.bcs r).view = .branch .BCS r) ∧
    (encode (.beq r) = [0xF0, r] ∧ (Instr.beq r).view = .branch .BEQ r) ∧
    (encode (.bmi r) = [0x30, r] ∧ (Instr.bmi r).view = .branch .BMI r) ∧
    (encode (.bne r) = [0xD0, r] ∧ (Instr.bne r).view = .branch .BNE r) ∧
    (encode (.bpl r) = [0x10, r] ∧ (Instr.bpl r).view = .branch .BPL r) ∧
    (encode (.bra r) = [0x80, r] ∧ (Instr.bra r).view = .branch .BRA r) ∧
    (encode (.bvc r) = [0x50, r] ∧ (Instr.bvc r).view = .branch .BVC r) ∧
    (encode (.bvs r) = [0x70, r] ∧ (Instr.bvs r).view = .branch .BVS r))

/-- CLC, CLD, CLI, CLV, SEC, SED, SEI and their encodings (R200 to R206): each writes its one flag. -/
def Obligations.FlagInstructions : Prop :=
  (∀ s : State,
    exec .clc s = .next { s with pc := s.pc + 1, p := { s.p with c := false } } ∧
    exec .cld s = .next { s with pc := s.pc + 1, p := { s.p with d := false } } ∧
    exec .cli s = .next { s with pc := s.pc + 1, p := { s.p with i := false } } ∧
    exec .clv s = .next { s with pc := s.pc + 1, p := { s.p with v := false } } ∧
    exec .sec s = .next { s with pc := s.pc + 1, p := { s.p with c := true } } ∧
    exec .sed s = .next { s with pc := s.pc + 1, p := { s.p with d := true } } ∧
    exec .sei s = .next { s with pc := s.pc + 1, p := { s.p with i := true } }) ∧
  encode .clc = [0x18] ∧ encode .cld = [0xD8] ∧ encode .cli = [0x58] ∧ encode .clv = [0xB8] ∧
  encode .sec = [0x38] ∧ encode .sed = [0xF8] ∧ encode .sei = [0x78]

/-- INX, INY, DEX, DEY and their encodings (R207 to R210): one more or one less at the index width, N and Z from it. -/
def Obligations.IndexSteps : Prop :=
  (∀ s : State,
    exec .inx s = .next { s with pc := s.pc + 1, x := movedIndex s s.x 1, p := indexFlags s (movedIndex s s.x 1) } ∧
    exec .dex s
      = .next { s with pc := s.pc + 1, x := movedIndex s s.x (-1), p := indexFlags s (movedIndex s s.x (-1)) } ∧
    exec .iny s = .next { s with pc := s.pc + 1, y := movedIndex s s.y 1, p := indexFlags s (movedIndex s s.y 1) } ∧
    exec .dey s
      = .next { s with pc := s.pc + 1, y := movedIndex s s.y (-1), p := indexFlags s (movedIndex s s.y (-1)) }) ∧
  encode .inx = [0xE8] ∧ encode .iny = [0xC8] ∧ encode .dex = [0xCA] ∧ encode .dey = [0x88]

/-- NOP moves PC by one and does nothing else; its encoding is EA (R211). -/
def Obligations.NopDoesNothing : Prop :=
  (∀ s : State, exec .nop s = .next { s with pc := s.pc + 1 }) ∧ encode .nop = [0xEA]

/-- The reserved opcode 42 completes as a two-byte no-operation, whatever its second byte: the spec's own decision D8
(R300; log 22). -/
def Obligations.ReservedOpcodeDoesNothing : Prop :=
  ∀ (s : State) (b : Byte), exec (.reserved42 b) s = .next { s with pc := s.pc + 2 } ∧ encode (.reserved42 b) = [0x42, b]

/-! ### Stack -/

/-- PHA, PHX, PHY, PHB, PHK and PHP push, wrapping within page 1 in Emulation mode (R220, R227 to R233). -/
def Obligations.RegisterPushes : Prop :=
  ∀ s : State,
    (∃ t : State, exec .pha s = .next t ∧
      Pushed s t (s.pc + 1) (if s.m8 then [loByte s.c] else [hiByte s.c, loByte s.c])) ∧
    (∃ t : State, exec .phx s = .next t ∧
      Pushed s t (s.pc + 1) (if s.x8 then [loByte s.x] else [hiByte s.x, loByte s.x])) ∧
    (∃ t : State, exec .phy s = .next t ∧
      Pushed s t (s.pc + 1) (if s.x8 then [loByte s.y] else [hiByte s.y, loByte s.y])) ∧
    (∃ t : State, exec .phb s = .next t ∧ Pushed s t (s.pc + 1) [s.dbr]) ∧
    (∃ t : State, exec .phk s = .next t ∧ Pushed s t (s.pc + 1) [s.pbr]) ∧
    (∃ t : State, exec .php s = .next t ∧ Pushed s t (s.pc + 1) [statusByte s true])

/-- PEA, PEI, PER and PHD push a word through the full 16-bit S, and SH is 01 again afterwards in Emulation mode (R222,
R224 to R226, R229; the Emulation case is the spec's decision D7, log 22). -/
def Obligations.WordPushes : Prop :=
  ∀ s : State,
    (∀ v : Word, ∃ t : State, exec (.pea v) s = .next t ∧ PushedNew s t (s.pc + 3) s.pbr [hiByte v, loByte v]) ∧
    (∀ o : Byte, ∃ t : State, exec (.pei o) s = .next t ∧
      PushedNew s t (s.pc + 2) s.pbr
        [s.readByte (mkAddr 0 (s.d + zext16 o + 1)), s.readByte (mkAddr 0 (s.d + zext16 o))]) ∧
    (∀ r : Word, ∃ t : State, exec (.per r) s = .next t ∧
      PushedNew s t (s.pc + 3) s.pbr [hiByte (s.pc + 3 + r), loByte (s.pc + 3 + r)]) ∧
    (∃ t : State, exec .phd s = .next t ∧ PushedNew s t (s.pc + 1) s.pbr [hiByte s.d, loByte s.d])

/-- PLA, PLX, PLY and PLB pull at their width, the low byte first, and set N and Z (R221, R234, R235, R238, R239). -/
def Obligations.RegisterPulls : Prop :=
  ∀ s : State,
    let word := mkWord (pulled s 2) (pulled s 1)
    let index := if s.x8 then zext16 (pulled s 1) else word
    exec .pla s = .next (if s.m8 then
        { s with pc := s.pc + 1, sp := up s 1, c := mkWord (hiByte s.c) (pulled s 1), p := nz s.p 8 (pulled s 1).toNat }
      else { s with pc := s.pc + 1, sp := up s 2, c := word, p := nz s.p 16 word.toNat }) ∧
    exec .plx s = .next { s with
      pc := s.pc + 1, sp := up s (if s.x8 then 1 else 2), x := index, p := indexFlags s index } ∧
    exec .ply s = .next { s with
      pc := s.pc + 1, sp := up s (if s.x8 then 1 else 2), y := index, p := indexFlags s index } ∧
    exec .plb s = .next { s with
      pc := s.pc + 1, sp := up s 1, dbr := pulled s 1, p := nz s.p 8 (pulled s 1).toNat }

/-- PLD pulls D through the full 16-bit S (R236; its Emulation case is D7, log 22), and PLP pulls P: all eight flags in
Native mode, where X = 1 clears XH and YH (D2), all but M and X in Emulation mode (R237; D23, log 22). -/
def Obligations.PldAndPlp : Prop :=
  ∀ s : State,
    let word := mkWord (pulledNew s 2) (pulledNew s 1)
    let p := pulledStatus s (pulled s 1)
    exec .pld s = .next { s with pc := s.pc + 1, sp := newEnd s (s.sp + 2), d := word, p := nz s.p 16 word.toNat } ∧
    exec .plp s = .next { s with
      pc := s.pc + 1, sp := up s 1, p := p, x := cutIndex s p s.x, y := cutIndex s p s.y }

/-! ### Transfers -/

/-- TAX, TAY, TSX, TXY, TYX, TXA, TYA, TCD, TDC, TSC and their encodings (R251 to R253, R255 to R258, R260, R261, R263):
the destination's width decides what is stored and what N and Z say. TCS and TXS (R254, R259) move 16 bits to S in Native
mode, and the low byte under SH = 01 in Emulation mode; they write no flag. -/
def Obligations.Transfers : Prop :=
  (∀ s : State,
    exec .tax s = .next { s with pc := s.pc + 1, x := indexValue s s.c, p := indexFlags s s.c } ∧
    exec .tay s = .next { s with pc := s.pc + 1, y := indexValue s s.c, p := indexFlags s s.c } ∧
    exec .tsx s = .next { s with pc := s.pc + 1, x := indexValue s s.sp, p := indexFlags s s.sp } ∧
    exec .txy s = .next { s with pc := s.pc + 1, y := indexValue s s.x, p := indexFlags s s.x } ∧
    exec .tyx s = .next { s with pc := s.pc + 1, x := indexValue s s.y, p := indexFlags s s.y } ∧
    exec .txa s = .next (accResult s .txa (loByte s.x, nz s.p 8 (loByte s.x).toNat) (s.x, nz s.p 16 s.x.toNat)) ∧
    exec .tya s = .next (accResult s .tya (loByte s.y, nz s.p 8 (loByte s.y).toNat) (s.y, nz s.p 16 s.y.toNat)) ∧
    exec .tcd s = .next { s with pc := s.pc + 1, d := s.c, p := nz s.p 16 s.c.toNat } ∧
    exec .tdc s = .next { s with pc := s.pc + 1, c := s.d, p := nz s.p 16 s.d.toNat } ∧
    exec .tsc s = .next { s with pc := s.pc + 1, c := s.sp, p := nz s.p 16 s.sp.toNat } ∧
    exec .tcs s = .next { s with pc := s.pc + 1, sp := if s.e then mkWord 0x01 (loByte s.c) else s.c } ∧
    exec .txs s = .next { s with pc := s.pc + 1, sp := if s.e then mkWord 0x01 (loByte s.x) else s.x }) ∧
  encode .tax = [0xAA] ∧ encode .tay = [0xA8] ∧ encode .tsx = [0xBA] ∧ encode .txy = [0x9B] ∧ encode .tyx = [0xBB] ∧
  encode .txa = [0x8A] ∧ encode .tya = [0x98] ∧ encode .tcd = [0x5B] ∧ encode .tdc = [0x7B] ∧ encode .tsc = [0x3B] ∧
  encode .tcs = [0x1B] ∧ encode .txs = [0x9A]

/-- XCE exchanges C and E; when the new E is 1 it locks M, X, XH, YH and SH; nothing else changes (R262). That leaving
Emulation mode (C = 0) changes nothing but E and C is the spec's decision D25 (R35; log 22). -/
def Obligations.XceExchanges : Prop :=
  (∀ s : State,
    (s.p.c = true → exec .xce s = .next { s with
      pc := s.pc + 1, e := true, p := { s.p with c := s.e, m := true, x := true }
      x := zext16 (loByte s.x), y := zext16 (loByte s.y), sp := mkWord 0x01 (loByte s.sp) }) ∧
    (s.p.c = false → exec .xce s = .next { s with pc := s.pc + 1, e := false, p := { s.p with c := s.e } })) ∧
  (∀ (i : Instr) (s t : State), exec i s = .next t → t.e ≠ s.e → i = .xce) ∧ encode .xce = [0xFB]

/-! ### Jumps, calls, returns -/

/-- BRL, the four JMP forms and JML: where PC and PBR go, and that nothing else changes (R131, R133, R270 to R272).
How the pointers of `(a)` and `(a,x)` wrap within their bank is the spec's decision D18 (log 22). -/
def Obligations.JumpTargets : Prop :=
  ∀ s : State,
    (∀ r : Word, exec (.brl r) s = .next { s with pc := BitVec.ofNat 16 (s.pc.toNat + 3 + r.toNat) }) ∧
    (∀ a : Word, exec (.jmpAbs a) s = .next { s with pc := a }) ∧
    (∀ a : Word, exec (.jmpAbsInd a) s = .next { s with
      pc := mkWord (s.readByte (mkAddr 0 (a + 1))) (s.readByte (mkAddr 0 a)) }) ∧
    (∀ a : Word, exec (.jmpAbsXInd a) s = .next { s with
      pc := mkWord (s.readByte (mkAddr s.pbr (a + s.x + 1))) (s.readByte (mkAddr s.pbr (a + s.x))) }) ∧
    (∀ (bank : Byte) (a : Word), exec (.jmpLong (mkAddr bank a)) s = .next { s with pc := a, pbr := bank }) ∧
    (∀ a : Word, exec (.jml a) s = .next { s with
      pc := mkWord (s.readByte (mkAddr 0 (a + 1))) (s.readByte (mkAddr 0 a))
      pbr := s.readByte (mkAddr 0 (a + 2)) })

/-- JSR `a`, JSR `(a,x)` and JSL stack the address of their own last byte, JSL with the old bank above it, and jump (R273,
R274). JSR `(a,x)` fetches its high operand byte and reads its pointer after the pushes (R72; log 13).
In Emulation mode the stack of JSR `(a,x)` and JSL is the spec's decision D7, the wrap of the pointer is D18 (log 22). -/
def Obligations.CallsStackReturnAddress : Prop :=
  ∀ s : State,
    (∀ a : Word, ∃ t : State, exec (.jsrAbs a) s = .next t ∧ Pushed s t a [hiByte (s.pc + 2), loByte (s.pc + 2)]) ∧
    (∀ a : Word, ∃ t : State, exec (.jsrAbsXInd a) s = .next t ∧
      let p := mkWord (lateHigh s a) (loByte a) + s.x
      PushedNew s t (mkWord (t.readByte (mkAddr s.pbr (p + 1))) (t.readByte (mkAddr s.pbr p))) s.pbr
        [hiByte (s.pc + 2), loByte (s.pc + 2)]) ∧
    (∀ (bank : Byte) (a : Word), ∃ t : State, exec (.jsl (mkAddr bank a)) s = .next t ∧
      PushedNew s t a bank [s.pbr, hiByte (s.pc + 3), loByte (s.pc + 3)])

/-- RTS pulls the return address, adds one and stays in its bank; no flag is written (R275). -/
def Obligations.RtsReturns : Prop :=
  (∀ s : State, exec .rts s = .next { s with sp := up s 2, pc := mkWord (pulled s 2) (pulled s 1) + 1 }) ∧
  encode .rts = [0x60]

/-- RTL pulls the return address and the bank through the full 16-bit S; the added one does not carry into the bank (R276;
the Emulation case is D7, log 22). RTI pulls P as PLP does, then PC with nothing added, and in Native mode PBR; E stays
(R277; D2 and D23 as in PLP, log 22). -/
def Obligations.RtlAndRtiReturn : Prop :=
  ∀ s : State,
    let p := pulledStatus s (pulled s 1)
    exec .rtl s = .next { s with
      sp := newEnd s (s.sp + 3), pc := mkWord (pulledNew s 2) (pulledNew s 1) + 1, pbr := pulledNew s 3 } ∧
    exec .rti s = .next { s with
      sp := up s (if s.e then 3 else 4)
      p := p
      x := cutIndex s p s.x
      y := cutIndex s p s.y
      pc := mkWord (pulled s 3) (pulled s 2)
      pbr := if s.e then s.pbr else pulled s 4 }

/-! ### System -/

/-- BRK and COP trap in every state, whatever I is, with the address after their signature byte stacked (R290, R291,
R310, R320): the entry is their own effect. -/
def Obligations.BreakAndCopTrap : Prop :=
  ∀ (s : State) (sig : Byte),
    (∃ t : State, exec (.brk sig) s = .next t ∧ Enters .brk (s.pc + 2) s t) ∧
    (∃ t : State, exec (.cop sig) s = .next t ∧ Enters .cop (s.pc + 2) s t)

/-- MVN and MVP move one byte, load DBR, step X and Y, count C down, and stay on the opcode until the last byte (R292 to
R294; the end of the count is the spec's decision D9, log 22). -/
def Obligations.BlockMoveByte : Prop :=
  ∀ (s : State) (dst src : Byte),
    let pc := if s.c = 0 then s.pc + 3 else s.pc
    (∃ t : State, exec (.mvn dst src) s = .next t ∧
      t = { s with
        mem := t.mem, dbr := dst, x := movedIndex s s.x 1, y := movedIndex s s.y 1, c := s.c - 1, pc := pc } ∧
      Writes s t [(mkAddr dst s.y, s.readByte (mkAddr src s.x))]) ∧
    (∃ t : State, exec (.mvp dst src) s = .next t ∧
      t = { s with
        mem := t.mem, dbr := dst, x := movedIndex s s.x (-1), y := movedIndex s s.y (-1), c := s.c - 1, pc := pc } ∧
      Writes s t [(mkAddr dst s.y, s.readByte (mkAddr src s.x))])

/-- Executed C + 1 times, a block move with 16-bit index registers ends with C = FFFF, X and Y moved by the count, DBR
the destination bank and PC past the instruction (R292 to R294; D9, log 22). -/
def Obligations.BlockMoveWhole : Prop :=
  ∀ (s : State) (dst src : Byte), s.x8 = false →
    (∃ t : State, execTimes (.mvn dst src) (s.c.toNat + 1) s = .next t ∧ t.c = 0xFFFF ∧ t.x = s.x + s.c + 1 ∧
      t.y = s.y + s.c + 1 ∧ t.dbr = dst ∧ t.pc = s.pc + 3 ∧ t.p = s.p ∧ t.sp = s.sp ∧ t.d = s.d ∧ t.pbr = s.pbr) ∧
    (∃ t : State, execTimes (.mvp dst src) (s.c.toNat + 1) s = .next t ∧ t.c = 0xFFFF ∧ t.x = s.x - s.c - 1 ∧
      t.y = s.y - s.c - 1 ∧ t.dbr = dst ∧ t.pc = s.pc + 3 ∧ t.p = s.p ∧ t.sp = s.sp ∧ t.d = s.d ∧ t.pbr = s.pbr)

/-- REP clears and SEP sets the flags its operand selects, M and X only in Native mode, where SEP of X clears XH and YH
(R295, R296; that clearing is the spec's decision D2, R22, log 22). -/
def Obligations.RepAndSep : Prop :=
  ∀ (s : State) (mask : Byte),
    let bit (k : Nat) : Bool := mask.toNat.testBit k
    let q : Status :=
      { n := s.p.n || bit 7, v := s.p.v || bit 6, m := s.p.m || (!s.e && bit 5), x := s.p.x || (!s.e && bit 4)
        d := s.p.d || bit 3, i := s.p.i || bit 2, z := s.p.z || bit 1, c := s.p.c || bit 0 }
    exec (.rep mask) s = .next { s with
      pc := s.pc + 2
      p := { n := s.p.n && !bit 7, v := s.p.v && !bit 6, m := s.p.m && (s.e || !bit 5), x := s.p.x && (s.e || !bit 4)
             d := s.p.d && !bit 3, i := s.p.i && !bit 2, z := s.p.z && !bit 1, c := s.p.c && !bit 0 } } ∧
    exec (.sep mask) s = .next { s with
      pc := s.pc + 2, p := q, x := cutIndex s q s.x, y := cutIndex s q s.y }

/-- STP stops the clock and WAI starts the wait; both move PC past themselves and change nothing else (R297, R299). -/
def Obligations.StopAndWait : Prop :=
  ∀ s : State,
    exec .stp s = .next { s with pc := s.pc + 1, stopped := true } ∧
    exec .wai s = .next { s with pc := s.pc + 1, waiting := true }

/-- XBA exchanges A and B in every mode and sets N and Z from the new A, 8 bits (R298). -/
def Obligations.XbaExchanges : Prop :=
  (∀ s : State, exec .xba s = .next { s with
    pc := s.pc + 1, c := mkWord (loByte s.c) (hiByte s.c), p := nz s.p 8 (hiByte s.c).toNat }) ∧
  encode .xba = [0xEB]
end

