-- ==== Sys2Proof/Laws/Memory.lean ====
section
/-! SUPPORT. The laws of memory: a read after a write, and the canonical form that every operation keeps. -/

namespace Sys2Proof.Machine

open Sys2Proof

theorem Memory.read_filter_same (m : Memory) (k : Nat) :
    Memory.read (m.filter fun cell => cell.1 ≠ k) k = unlistedByte := by
  induction m with
  | nil => rfl
  | cons c rest ih =>
    obtain ⟨a, b⟩ := c
    by_cases h : a = k
    · simpa [h] using ih
    · simpa [h, Memory.read] using ih

theorem Memory.read_filter_other (m : Memory) (k j : Nat) (h : j ≠ k) :
    Memory.read (m.filter fun cell => cell.1 ≠ k) j = Memory.read m j := by
  induction m with
  | nil => rfl
  | cons c rest ih =>
    obtain ⟨a, b⟩ := c
    by_cases hk : a = k
    · subst hk
      simpa [Memory.read, Ne.symm h] using ih
    · by_cases hj : a = j
      · simp [Memory.read, hj, h]
      · simpa [List.filter_cons, hk, Memory.read, hj] using ih

theorem Memory.read_insert (m : Memory) (k j : Nat) (v : Byte) :
    Memory.read (Memory.insert m k v) j = if j = k then v else Memory.read m j := by
  induction m with
  | nil => simp [Memory.insert, Memory.read, eq_comm]
  | cons c rest ih =>
    obtain ⟨a, b⟩ := c
    unfold Memory.insert
    split
    · simp [Memory.read, eq_comm]
    · split
      · rename_i h
        subst h
        by_cases hj : j = k
        · simp [Memory.read, hj]
        · simp [Memory.read, hj, Ne.symm hj]
      · rename_i h1 h2
        by_cases hj : a = j
        · subst hj
          simp [Memory.read, Ne.symm h2]
        · simp [Memory.read, hj, ih]

/-- A read after a write: the byte written at its address, the old byte elsewhere. -/
@[simp] theorem Memory.read_write (m : Memory) (k j : Nat) (v : Byte) :
    Memory.read (Memory.write m k v) j = if j = k then v else Memory.read m j := by
  unfold Memory.write
  split
  · rename_i hv
    subst hv
    by_cases h : j = k
    · subst h
      simpa using Memory.read_filter_same m j
    · simpa [h] using Memory.read_filter_other m k j h
  · exact Memory.read_insert m k j v

theorem Memory.mem_insert {m : Memory} {k : Nat} {v : Byte} {c : Host.Cell} (h : c ∈ Memory.insert m k v) :
    c = (k, v) ∨ c ∈ m := by
  induction m with
  | nil => simpa [Memory.insert] using h
  | cons d rest ih =>
    obtain ⟨a, b⟩ := d
    unfold Memory.insert at h
    split at h
    · simpa using h
    · split at h
      · rcases List.mem_cons.mp h with rfl | h
        · exact .inl rfl
        · exact .inr (List.mem_cons_of_mem _ h)
      · rcases List.mem_cons.mp h with rfl | h
        · exact .inr (List.mem_cons_self ..)
        · exact (ih h).imp_right (List.mem_cons_of_mem _)

theorem Memory.insert_pairwise {m : Memory} (k : Nat) (v : Byte) (h : m.Pairwise (fun a b => a.1 < b.1)) :
    (Memory.insert m k v).Pairwise (fun a b => a.1 < b.1) := by
  induction m with
  | nil => simp [Memory.insert]
  | cons d rest ih =>
    obtain ⟨a, b⟩ := d
    have hd := List.pairwise_cons.mp h
    unfold Memory.insert
    split
    · rename_i hlt
      refine List.pairwise_cons.mpr ⟨fun c hc => ?_, h⟩
      rcases List.mem_cons.mp hc with rfl | hc
      · exact hlt
      · exact Nat.lt_trans hlt (hd.1 c hc)
    · split
      · rename_i heq
        subst heq
        exact List.pairwise_cons.mpr ⟨fun c hc => hd.1 c hc, hd.2⟩
      · rename_i h1 h2
        refine List.pairwise_cons.mpr ⟨fun c hc => ?_, ih hd.2⟩
        rcases Memory.mem_insert hc with rfl | hc
        · simp only; omega
        · exact hd.1 c hc

/-- A write keeps the canonical form. -/
theorem Memory.write_wf {m : Memory} {k : Nat} (v : Byte) (h : Memory.wf m) (hk : k < 2 ^ 24) :
    Memory.wf (Memory.write m k v) := by
  unfold Memory.write
  split
  · exact ⟨h.1.filter _, fun c hc => h.2 c ((List.mem_filter.mp hc).1)⟩
  · rename_i hv
    refine ⟨Memory.insert_pairwise k v h.1, fun c hc => ?_⟩
    rcases Memory.mem_insert hc with rfl | hc
    · exact ⟨hv, hk⟩
    · exact h.2 c hc

theorem physAddr_lt (v : Variant) (a : Addr) : physAddr v a < 2 ^ 24 := by
  cases v
  · simp only [physAddr]; omega
  · simpa [physAddr] using a.isLt

/-- The memory after reset has the canonical form. -/
theorem reset_mem_wf : Memory.wf State.reset.mem := by decide

namespace State

/-- A byte read after a byte write (R61, R80). -/
theorem readByte_writeByte (s : State) (a b : Addr) (v : Byte) :
    (s.writeByte a v).readByte b =
      if physAddr s.config.variant b = physAddr s.config.variant a then v else s.readByte b := by
  simp [readByte, writeByte]

theorem writeByte_wf (s : State) (a : Addr) (v : Byte) (h : s.mem.wf) : (s.writeByte a v).mem.wf :=
  Memory.write_wf v h (physAddr_lt _ _)

theorem push8_wf (s : State) (v : Byte) (h : s.mem.wf) : (s.push8 v).mem.wf := writeByte_wf s _ v h

theorem push16_wf (s : State) (v : Word) (h : s.mem.wf) : (s.push16 v).mem.wf := push8_wf _ _ (push8_wf s _ h)

theorem pushNew8_wf (s : State) (v : Byte) (h : s.mem.wf) : (s.pushNew8 v).mem.wf := writeByte_wf s _ v h

theorem pushNew16_wf (s : State) (v : Word) (h : s.mem.wf) : (s.pushNew16 v).mem.wf :=
  pushNew8_wf _ _ (pushNew8_wf s _ h)

theorem store8_wf (s : State) (pl : Place) (v : Byte) (h : s.mem.wf) : (s.store8 pl v).mem.wf := writeByte_wf s _ v h

theorem store16_wf (s : State) (pl : Place) (v : Word) (h : s.mem.wf) : (s.store16 pl v).mem.wf :=
  writeByte_wf _ _ _ (writeByte_wf s _ _ h)

theorem writeBack8_wf (s : State) (pl : Place) (old new : Byte) (h : s.mem.wf) : (s.writeBack8 pl old new).mem.wf := by
  unfold writeBack8
  split
  · exact store8_wf _ _ _ (store8_wf s _ _ h)
  · exact store8_wf s _ _ h

theorem writeBack16_wf (s : State) (pl : Place) (new : Word) (h : s.mem.wf) : (s.writeBack16 pl new).mem.wf :=
  writeByte_wf _ _ _ (writeByte_wf s _ _ h)

theorem modifyMem_wf (s : State) (f : RmwFn) (m : MemMode) (h : s.mem.wf) : (s.modifyMem f m).mem.wf := by
  unfold modifyMem
  split
  · exact writeBack8_wf s _ _ _ h
  · exact writeBack16_wf s _ _ h

theorem takeInterrupt_wf (s : State) (k : Interrupt) (r : Word) (h : s.mem.wf) : (s.takeInterrupt k r).mem.wf := by
  change (s.stackInterrupt k r).mem.wf
  unfold stackInterrupt
  refine push8_wf _ _ (push16_wf _ _ ?_)
  split
  · exact h
  · exact push8_wf s _ h

theorem storeK_wf (s : State) (a : Word) (bytes : List Byte) (h : s.mem.wf) : (s.storeK a bytes).mem.wf := by
  induction bytes generalizing s a with
  | nil => exact h
  | cons b rest ih => exact ih _ _ (writeByte_wf s _ _ h)

theorem applyBusWrites_wf (s : State) (ws : List (Addr × Byte)) (h : s.mem.wf) : (s.applyBusWrites ws).mem.wf := by
  induction ws generalizing s with
  | nil => exact h
  | cons w rest ih => exact ih _ (writeByte_wf s _ _ h)

end State

end Sys2Proof.Machine
end

