-- ==== Sys2Proof/Laws/State.lean ====
section
/-! SUPPORT. The fields of a state after each named update: one lemma per field per update. -/

namespace Sys2Proof.Machine.State

open Sys2Proof Sys2Proof.Machine

variable (s : State)

@[simp] theorem writeByte_c (a : Addr) (v : Byte) : (s.writeByte a v).c = s.c := rfl
@[simp] theorem writeByte_x (a : Addr) (v : Byte) : (s.writeByte a v).x = s.x := rfl
@[simp] theorem writeByte_y (a : Addr) (v : Byte) : (s.writeByte a v).y = s.y := rfl
@[simp] theorem writeByte_sp (a : Addr) (v : Byte) : (s.writeByte a v).sp = s.sp := rfl
@[simp] theorem writeByte_d (a : Addr) (v : Byte) : (s.writeByte a v).d = s.d := rfl
@[simp] theorem writeByte_pc (a : Addr) (v : Byte) : (s.writeByte a v).pc = s.pc := rfl
@[simp] theorem writeByte_dbr (a : Addr) (v : Byte) : (s.writeByte a v).dbr = s.dbr := rfl
@[simp] theorem writeByte_pbr (a : Addr) (v : Byte) : (s.writeByte a v).pbr = s.pbr := rfl
@[simp] theorem writeByte_p (a : Addr) (v : Byte) : (s.writeByte a v).p = s.p := rfl
@[simp] theorem writeByte_e (a : Addr) (v : Byte) : (s.writeByte a v).e = s.e := rfl
@[simp] theorem writeByte_waiting (a : Addr) (v : Byte) : (s.writeByte a v).waiting = s.waiting := rfl
@[simp] theorem writeByte_stopped (a : Addr) (v : Byte) : (s.writeByte a v).stopped = s.stopped := rfl
@[simp] theorem writeByte_nmiPending (a : Addr) (v : Byte) : (s.writeByte a v).nmiPending = s.nmiPending := rfl
@[simp] theorem writeByte_abortPending (a : Addr) (v : Byte) : (s.writeByte a v).abortPending = s.abortPending := rfl
@[simp] theorem writeByte_mem (a : Addr) (v : Byte) : (s.writeByte a v).mem = s.mem.write (physAddr s.config.variant a) v := rfl
@[simp] theorem writeByte_config (a : Addr) (v : Byte) : (s.writeByte a v).config = s.config := rfl
@[simp] theorem writeByte_inputs (a : Addr) (v : Byte) : (s.writeByte a v).inputs = s.inputs := rfl
@[simp] theorem writeByte_freeCount (a : Addr) (v : Byte) : (s.writeByte a v).freeCount = s.freeCount := rfl
@[simp] theorem writeByte_lastM (a : Addr) (v : Byte) : (s.writeByte a v).lastM = s.lastM := rfl
@[simp] theorem writeByte_lastX (a : Addr) (v : Byte) : (s.writeByte a v).lastX = s.lastX := rfl

@[simp] theorem setA_c (v : Byte) : (s.setA v).c = mkWord (hiByte s.c) v := rfl
@[simp] theorem setA_x (v : Byte) : (s.setA v).x = s.x := rfl
@[simp] theorem setA_y (v : Byte) : (s.setA v).y = s.y := rfl
@[simp] theorem setA_sp (v : Byte) : (s.setA v).sp = s.sp := rfl
@[simp] theorem setA_d (v : Byte) : (s.setA v).d = s.d := rfl
@[simp] theorem setA_pc (v : Byte) : (s.setA v).pc = s.pc := rfl
@[simp] theorem setA_dbr (v : Byte) : (s.setA v).dbr = s.dbr := rfl
@[simp] theorem setA_pbr (v : Byte) : (s.setA v).pbr = s.pbr := rfl
@[simp] theorem setA_p (v : Byte) : (s.setA v).p = s.p := rfl
@[simp] theorem setA_e (v : Byte) : (s.setA v).e = s.e := rfl
@[simp] theorem setA_waiting (v : Byte) : (s.setA v).waiting = s.waiting := rfl
@[simp] theorem setA_stopped (v : Byte) : (s.setA v).stopped = s.stopped := rfl
@[simp] theorem setA_nmiPending (v : Byte) : (s.setA v).nmiPending = s.nmiPending := rfl
@[simp] theorem setA_abortPending (v : Byte) : (s.setA v).abortPending = s.abortPending := rfl
@[simp] theorem setA_mem (v : Byte) : (s.setA v).mem = s.mem := rfl
@[simp] theorem setA_config (v : Byte) : (s.setA v).config = s.config := rfl
@[simp] theorem setA_inputs (v : Byte) : (s.setA v).inputs = s.inputs := rfl
@[simp] theorem setA_freeCount (v : Byte) : (s.setA v).freeCount = s.freeCount := rfl
@[simp] theorem setA_lastM (v : Byte) : (s.setA v).lastM = s.lastM := rfl
@[simp] theorem setA_lastX (v : Byte) : (s.setA v).lastX = s.lastX := rfl

@[simp] theorem setC_c (v : Word) : (s.setC v).c = v := rfl
@[simp] theorem setC_x (v : Word) : (s.setC v).x = s.x := rfl
@[simp] theorem setC_y (v : Word) : (s.setC v).y = s.y := rfl
@[simp] theorem setC_sp (v : Word) : (s.setC v).sp = s.sp := rfl
@[simp] theorem setC_d (v : Word) : (s.setC v).d = s.d := rfl
@[simp] theorem setC_pc (v : Word) : (s.setC v).pc = s.pc := rfl
@[simp] theorem setC_dbr (v : Word) : (s.setC v).dbr = s.dbr := rfl
@[simp] theorem setC_pbr (v : Word) : (s.setC v).pbr = s.pbr := rfl
@[simp] theorem setC_p (v : Word) : (s.setC v).p = s.p := rfl
@[simp] theorem setC_e (v : Word) : (s.setC v).e = s.e := rfl
@[simp] theorem setC_waiting (v : Word) : (s.setC v).waiting = s.waiting := rfl
@[simp] theorem setC_stopped (v : Word) : (s.setC v).stopped = s.stopped := rfl
@[simp] theorem setC_nmiPending (v : Word) : (s.setC v).nmiPending = s.nmiPending := rfl
@[simp] theorem setC_abortPending (v : Word) : (s.setC v).abortPending = s.abortPending := rfl
@[simp] theorem setC_mem (v : Word) : (s.setC v).mem = s.mem := rfl
@[simp] theorem setC_config (v : Word) : (s.setC v).config = s.config := rfl
@[simp] theorem setC_inputs (v : Word) : (s.setC v).inputs = s.inputs := rfl
@[simp] theorem setC_freeCount (v : Word) : (s.setC v).freeCount = s.freeCount := rfl
@[simp] theorem setC_lastM (v : Word) : (s.setC v).lastM = s.lastM := rfl
@[simp] theorem setC_lastX (v : Word) : (s.setC v).lastX = s.lastX := rfl

@[simp] theorem setX8_c (v : Byte) : (s.setX8 v).c = s.c := rfl
@[simp] theorem setX8_x (v : Byte) : (s.setX8 v).x = zext16 v := rfl
@[simp] theorem setX8_y (v : Byte) : (s.setX8 v).y = s.y := rfl
@[simp] theorem setX8_sp (v : Byte) : (s.setX8 v).sp = s.sp := rfl
@[simp] theorem setX8_d (v : Byte) : (s.setX8 v).d = s.d := rfl
@[simp] theorem setX8_pc (v : Byte) : (s.setX8 v).pc = s.pc := rfl
@[simp] theorem setX8_dbr (v : Byte) : (s.setX8 v).dbr = s.dbr := rfl
@[simp] theorem setX8_pbr (v : Byte) : (s.setX8 v).pbr = s.pbr := rfl
@[simp] theorem setX8_p (v : Byte) : (s.setX8 v).p = s.p := rfl
@[simp] theorem setX8_e (v : Byte) : (s.setX8 v).e = s.e := rfl
@[simp] theorem setX8_waiting (v : Byte) : (s.setX8 v).waiting = s.waiting := rfl
@[simp] theorem setX8_stopped (v : Byte) : (s.setX8 v).stopped = s.stopped := rfl
@[simp] theorem setX8_nmiPending (v : Byte) : (s.setX8 v).nmiPending = s.nmiPending := rfl
@[simp] theorem setX8_abortPending (v : Byte) : (s.setX8 v).abortPending = s.abortPending := rfl
@[simp] theorem setX8_mem (v : Byte) : (s.setX8 v).mem = s.mem := rfl
@[simp] theorem setX8_config (v : Byte) : (s.setX8 v).config = s.config := rfl
@[simp] theorem setX8_inputs (v : Byte) : (s.setX8 v).inputs = s.inputs := rfl
@[simp] theorem setX8_freeCount (v : Byte) : (s.setX8 v).freeCount = s.freeCount := rfl
@[simp] theorem setX8_lastM (v : Byte) : (s.setX8 v).lastM = s.lastM := rfl
@[simp] theorem setX8_lastX (v : Byte) : (s.setX8 v).lastX = s.lastX := rfl

@[simp] theorem setY8_c (v : Byte) : (s.setY8 v).c = s.c := rfl
@[simp] theorem setY8_x (v : Byte) : (s.setY8 v).x = s.x := rfl
@[simp] theorem setY8_y (v : Byte) : (s.setY8 v).y = zext16 v := rfl
@[simp] theorem setY8_sp (v : Byte) : (s.setY8 v).sp = s.sp := rfl
@[simp] theorem setY8_d (v : Byte) : (s.setY8 v).d = s.d := rfl
@[simp] theorem setY8_pc (v : Byte) : (s.setY8 v).pc = s.pc := rfl
@[simp] theorem setY8_dbr (v : Byte) : (s.setY8 v).dbr = s.dbr := rfl
@[simp] theorem setY8_pbr (v : Byte) : (s.setY8 v).pbr = s.pbr := rfl
@[simp] theorem setY8_p (v : Byte) : (s.setY8 v).p = s.p := rfl
@[simp] theorem setY8_e (v : Byte) : (s.setY8 v).e = s.e := rfl
@[simp] theorem setY8_waiting (v : Byte) : (s.setY8 v).waiting = s.waiting := rfl
@[simp] theorem setY8_stopped (v : Byte) : (s.setY8 v).stopped = s.stopped := rfl
@[simp] theorem setY8_nmiPending (v : Byte) : (s.setY8 v).nmiPending = s.nmiPending := rfl
@[simp] theorem setY8_abortPending (v : Byte) : (s.setY8 v).abortPending = s.abortPending := rfl
@[simp] theorem setY8_mem (v : Byte) : (s.setY8 v).mem = s.mem := rfl
@[simp] theorem setY8_config (v : Byte) : (s.setY8 v).config = s.config := rfl
@[simp] theorem setY8_inputs (v : Byte) : (s.setY8 v).inputs = s.inputs := rfl
@[simp] theorem setY8_freeCount (v : Byte) : (s.setY8 v).freeCount = s.freeCount := rfl
@[simp] theorem setY8_lastM (v : Byte) : (s.setY8 v).lastM = s.lastM := rfl
@[simp] theorem setY8_lastX (v : Byte) : (s.setY8 v).lastX = s.lastX := rfl

@[simp] theorem setNZ_c {w : Nat} (r : BitVec w) : (s.setNZ r).c = s.c := rfl
@[simp] theorem setNZ_x {w : Nat} (r : BitVec w) : (s.setNZ r).x = s.x := rfl
@[simp] theorem setNZ_y {w : Nat} (r : BitVec w) : (s.setNZ r).y = s.y := rfl
@[simp] theorem setNZ_sp {w : Nat} (r : BitVec w) : (s.setNZ r).sp = s.sp := rfl
@[simp] theorem setNZ_d {w : Nat} (r : BitVec w) : (s.setNZ r).d = s.d := rfl
@[simp] theorem setNZ_pc {w : Nat} (r : BitVec w) : (s.setNZ r).pc = s.pc := rfl
@[simp] theorem setNZ_dbr {w : Nat} (r : BitVec w) : (s.setNZ r).dbr = s.dbr := rfl
@[simp] theorem setNZ_pbr {w : Nat} (r : BitVec w) : (s.setNZ r).pbr = s.pbr := rfl
@[simp] theorem setNZ_p {w : Nat} (r : BitVec w) : (s.setNZ r).p = s.p.setNZ r := rfl
@[simp] theorem setNZ_e {w : Nat} (r : BitVec w) : (s.setNZ r).e = s.e := rfl
@[simp] theorem setNZ_waiting {w : Nat} (r : BitVec w) : (s.setNZ r).waiting = s.waiting := rfl
@[simp] theorem setNZ_stopped {w : Nat} (r : BitVec w) : (s.setNZ r).stopped = s.stopped := rfl
@[simp] theorem setNZ_nmiPending {w : Nat} (r : BitVec w) : (s.setNZ r).nmiPending = s.nmiPending := rfl
@[simp] theorem setNZ_abortPending {w : Nat} (r : BitVec w) : (s.setNZ r).abortPending = s.abortPending := rfl
@[simp] theorem setNZ_mem {w : Nat} (r : BitVec w) : (s.setNZ r).mem = s.mem := rfl
@[simp] theorem setNZ_config {w : Nat} (r : BitVec w) : (s.setNZ r).config = s.config := rfl
@[simp] theorem setNZ_inputs {w : Nat} (r : BitVec w) : (s.setNZ r).inputs = s.inputs := rfl
@[simp] theorem setNZ_freeCount {w : Nat} (r : BitVec w) : (s.setNZ r).freeCount = s.freeCount := rfl
@[simp] theorem setNZ_lastM {w : Nat} (r : BitVec w) : (s.setNZ r).lastM = s.lastM := rfl
@[simp] theorem setNZ_lastX {w : Nat} (r : BitVec w) : (s.setNZ r).lastX = s.lastX := rfl

@[simp] theorem advance_c (n : Nat) : (s.advance n).c = s.c := rfl
@[simp] theorem advance_x (n : Nat) : (s.advance n).x = s.x := rfl
@[simp] theorem advance_y (n : Nat) : (s.advance n).y = s.y := rfl
@[simp] theorem advance_sp (n : Nat) : (s.advance n).sp = s.sp := rfl
@[simp] theorem advance_d (n : Nat) : (s.advance n).d = s.d := rfl
@[simp] theorem advance_pc (n : Nat) : (s.advance n).pc = s.pc + BitVec.ofNat 16 n := rfl
@[simp] theorem advance_dbr (n : Nat) : (s.advance n).dbr = s.dbr := rfl
@[simp] theorem advance_pbr (n : Nat) : (s.advance n).pbr = s.pbr := rfl
@[simp] theorem advance_p (n : Nat) : (s.advance n).p = s.p := rfl
@[simp] theorem advance_e (n : Nat) : (s.advance n).e = s.e := rfl
@[simp] theorem advance_waiting (n : Nat) : (s.advance n).waiting = s.waiting := rfl
@[simp] theorem advance_stopped (n : Nat) : (s.advance n).stopped = s.stopped := rfl
@[simp] theorem advance_nmiPending (n : Nat) : (s.advance n).nmiPending = s.nmiPending := rfl
@[simp] theorem advance_abortPending (n : Nat) : (s.advance n).abortPending = s.abortPending := rfl
@[simp] theorem advance_mem (n : Nat) : (s.advance n).mem = s.mem := rfl
@[simp] theorem advance_config (n : Nat) : (s.advance n).config = s.config := rfl
@[simp] theorem advance_inputs (n : Nat) : (s.advance n).inputs = s.inputs := rfl
@[simp] theorem advance_freeCount (n : Nat) : (s.advance n).freeCount = s.freeCount := rfl
@[simp] theorem advance_lastM (n : Nat) : (s.advance n).lastM = s.lastM := rfl
@[simp] theorem advance_lastX (n : Nat) : (s.advance n).lastX = s.lastX := rfl

@[simp] theorem push8_c (v : Byte) : (s.push8 v).c = s.c := rfl
@[simp] theorem push8_x (v : Byte) : (s.push8 v).x = s.x := rfl
@[simp] theorem push8_y (v : Byte) : (s.push8 v).y = s.y := rfl
@[simp] theorem push8_sp (v : Byte) : (s.push8 v).sp = s.spAfterPush := rfl
@[simp] theorem push8_d (v : Byte) : (s.push8 v).d = s.d := rfl
@[simp] theorem push8_pc (v : Byte) : (s.push8 v).pc = s.pc := rfl
@[simp] theorem push8_dbr (v : Byte) : (s.push8 v).dbr = s.dbr := rfl
@[simp] theorem push8_pbr (v : Byte) : (s.push8 v).pbr = s.pbr := rfl
@[simp] theorem push8_p (v : Byte) : (s.push8 v).p = s.p := rfl
@[simp] theorem push8_e (v : Byte) : (s.push8 v).e = s.e := rfl
@[simp] theorem push8_waiting (v : Byte) : (s.push8 v).waiting = s.waiting := rfl
@[simp] theorem push8_stopped (v : Byte) : (s.push8 v).stopped = s.stopped := rfl
@[simp] theorem push8_nmiPending (v : Byte) : (s.push8 v).nmiPending = s.nmiPending := rfl
@[simp] theorem push8_abortPending (v : Byte) : (s.push8 v).abortPending = s.abortPending := rfl
@[simp] theorem push8_mem (v : Byte) : (s.push8 v).mem = s.mem.write (physAddr s.config.variant (bank0 s.sp)) v := rfl
@[simp] theorem push8_config (v : Byte) : (s.push8 v).config = s.config := rfl
@[simp] theorem push8_inputs (v : Byte) : (s.push8 v).inputs = s.inputs := rfl
@[simp] theorem push8_freeCount (v : Byte) : (s.push8 v).freeCount = s.freeCount := rfl
@[simp] theorem push8_lastM (v : Byte) : (s.push8 v).lastM = s.lastM := rfl
@[simp] theorem push8_lastX (v : Byte) : (s.push8 v).lastX = s.lastX := rfl

@[simp] theorem pushNew8_c (v : Byte) : (s.pushNew8 v).c = s.c := rfl
@[simp] theorem pushNew8_x (v : Byte) : (s.pushNew8 v).x = s.x := rfl
@[simp] theorem pushNew8_y (v : Byte) : (s.pushNew8 v).y = s.y := rfl
@[simp] theorem pushNew8_sp (v : Byte) : (s.pushNew8 v).sp = s.sp - 1 := rfl
@[simp] theorem pushNew8_d (v : Byte) : (s.pushNew8 v).d = s.d := rfl
@[simp] theorem pushNew8_pc (v : Byte) : (s.pushNew8 v).pc = s.pc := rfl
@[simp] theorem pushNew8_dbr (v : Byte) : (s.pushNew8 v).dbr = s.dbr := rfl
@[simp] theorem pushNew8_pbr (v : Byte) : (s.pushNew8 v).pbr = s.pbr := rfl
@[simp] theorem pushNew8_p (v : Byte) : (s.pushNew8 v).p = s.p := rfl
@[simp] theorem pushNew8_e (v : Byte) : (s.pushNew8 v).e = s.e := rfl
@[simp] theorem pushNew8_waiting (v : Byte) : (s.pushNew8 v).waiting = s.waiting := rfl
@[simp] theorem pushNew8_stopped (v : Byte) : (s.pushNew8 v).stopped = s.stopped := rfl
@[simp] theorem pushNew8_nmiPending (v : Byte) : (s.pushNew8 v).nmiPending = s.nmiPending := rfl
@[simp] theorem pushNew8_abortPending (v : Byte) : (s.pushNew8 v).abortPending = s.abortPending := rfl
@[simp] theorem pushNew8_mem (v : Byte) : (s.pushNew8 v).mem = s.mem.write (physAddr s.config.variant (bank0 s.sp)) v := rfl
@[simp] theorem pushNew8_config (v : Byte) : (s.pushNew8 v).config = s.config := rfl
@[simp] theorem pushNew8_inputs (v : Byte) : (s.pushNew8 v).inputs = s.inputs := rfl
@[simp] theorem pushNew8_freeCount (v : Byte) : (s.pushNew8 v).freeCount = s.freeCount := rfl
@[simp] theorem pushNew8_lastM (v : Byte) : (s.pushNew8 v).lastM = s.lastM := rfl
@[simp] theorem pushNew8_lastX (v : Byte) : (s.pushNew8 v).lastX = s.lastX := rfl

@[simp] theorem push16_c (v : Word) : (s.push16 v).c = s.c := rfl
@[simp] theorem push16_x (v : Word) : (s.push16 v).x = s.x := rfl
@[simp] theorem push16_y (v : Word) : (s.push16 v).y = s.y := rfl
@[simp] theorem push16_d (v : Word) : (s.push16 v).d = s.d := rfl
@[simp] theorem push16_pc (v : Word) : (s.push16 v).pc = s.pc := rfl
@[simp] theorem push16_dbr (v : Word) : (s.push16 v).dbr = s.dbr := rfl
@[simp] theorem push16_pbr (v : Word) : (s.push16 v).pbr = s.pbr := rfl
@[simp] theorem push16_p (v : Word) : (s.push16 v).p = s.p := rfl
@[simp] theorem push16_e (v : Word) : (s.push16 v).e = s.e := rfl
@[simp] theorem push16_waiting (v : Word) : (s.push16 v).waiting = s.waiting := rfl
@[simp] theorem push16_stopped (v : Word) : (s.push16 v).stopped = s.stopped := rfl
@[simp] theorem push16_nmiPending (v : Word) : (s.push16 v).nmiPending = s.nmiPending := rfl
@[simp] theorem push16_abortPending (v : Word) : (s.push16 v).abortPending = s.abortPending := rfl
@[simp] theorem push16_config (v : Word) : (s.push16 v).config = s.config := rfl
@[simp] theorem push16_inputs (v : Word) : (s.push16 v).inputs = s.inputs := rfl
@[simp] theorem push16_freeCount (v : Word) : (s.push16 v).freeCount = s.freeCount := rfl
@[simp] theorem push16_lastM (v : Word) : (s.push16 v).lastM = s.lastM := rfl
@[simp] theorem push16_lastX (v : Word) : (s.push16 v).lastX = s.lastX := rfl

@[simp] theorem pushNew16_c (v : Word) : (s.pushNew16 v).c = s.c := rfl
@[simp] theorem pushNew16_x (v : Word) : (s.pushNew16 v).x = s.x := rfl
@[simp] theorem pushNew16_y (v : Word) : (s.pushNew16 v).y = s.y := rfl
@[simp] theorem pushNew16_sp (v : Word) : (s.pushNew16 v).sp = s.sp - 1 - 1 := rfl
@[simp] theorem pushNew16_d (v : Word) : (s.pushNew16 v).d = s.d := rfl
@[simp] theorem pushNew16_pc (v : Word) : (s.pushNew16 v).pc = s.pc := rfl
@[simp] theorem pushNew16_dbr (v : Word) : (s.pushNew16 v).dbr = s.dbr := rfl
@[simp] theorem pushNew16_pbr (v : Word) : (s.pushNew16 v).pbr = s.pbr := rfl
@[simp] theorem pushNew16_p (v : Word) : (s.pushNew16 v).p = s.p := rfl
@[simp] theorem pushNew16_e (v : Word) : (s.pushNew16 v).e = s.e := rfl
@[simp] theorem pushNew16_waiting (v : Word) : (s.pushNew16 v).waiting = s.waiting := rfl
@[simp] theorem pushNew16_stopped (v : Word) : (s.pushNew16 v).stopped = s.stopped := rfl
@[simp] theorem pushNew16_nmiPending (v : Word) : (s.pushNew16 v).nmiPending = s.nmiPending := rfl
@[simp] theorem pushNew16_abortPending (v : Word) : (s.pushNew16 v).abortPending = s.abortPending := rfl
@[simp] theorem pushNew16_config (v : Word) : (s.pushNew16 v).config = s.config := rfl
@[simp] theorem pushNew16_inputs (v : Word) : (s.pushNew16 v).inputs = s.inputs := rfl
@[simp] theorem pushNew16_freeCount (v : Word) : (s.pushNew16 v).freeCount = s.freeCount := rfl
@[simp] theorem pushNew16_lastM (v : Word) : (s.pushNew16 v).lastM = s.lastM := rfl
@[simp] theorem pushNew16_lastX (v : Word) : (s.pushNew16 v).lastX = s.lastX := rfl

@[simp] theorem store8_c (pl : Place) (v : Byte) : (s.store8 pl v).c = s.c := rfl
@[simp] theorem store8_x (pl : Place) (v : Byte) : (s.store8 pl v).x = s.x := rfl
@[simp] theorem store8_y (pl : Place) (v : Byte) : (s.store8 pl v).y = s.y := rfl
@[simp] theorem store8_sp (pl : Place) (v : Byte) : (s.store8 pl v).sp = s.sp := rfl
@[simp] theorem store8_d (pl : Place) (v : Byte) : (s.store8 pl v).d = s.d := rfl
@[simp] theorem store8_pc (pl : Place) (v : Byte) : (s.store8 pl v).pc = s.pc := rfl
@[simp] theorem store8_dbr (pl : Place) (v : Byte) : (s.store8 pl v).dbr = s.dbr := rfl
@[simp] theorem store8_pbr (pl : Place) (v : Byte) : (s.store8 pl v).pbr = s.pbr := rfl
@[simp] theorem store8_p (pl : Place) (v : Byte) : (s.store8 pl v).p = s.p := rfl
@[simp] theorem store8_e (pl : Place) (v : Byte) : (s.store8 pl v).e = s.e := rfl
@[simp] theorem store8_waiting (pl : Place) (v : Byte) : (s.store8 pl v).waiting = s.waiting := rfl
@[simp] theorem store8_stopped (pl : Place) (v : Byte) : (s.store8 pl v).stopped = s.stopped := rfl
@[simp] theorem store8_nmiPending (pl : Place) (v : Byte) : (s.store8 pl v).nmiPending = s.nmiPending := rfl
@[simp] theorem store8_abortPending (pl : Place) (v : Byte) : (s.store8 pl v).abortPending = s.abortPending := rfl
@[simp] theorem store8_mem (pl : Place) (v : Byte) : (s.store8 pl v).mem = s.mem.write (physAddr s.config.variant pl.first) v := rfl
@[simp] theorem store8_config (pl : Place) (v : Byte) : (s.store8 pl v).config = s.config := rfl
@[simp] theorem store8_inputs (pl : Place) (v : Byte) : (s.store8 pl v).inputs = s.inputs := rfl
@[simp] theorem store8_freeCount (pl : Place) (v : Byte) : (s.store8 pl v).freeCount = s.freeCount := rfl
@[simp] theorem store8_lastM (pl : Place) (v : Byte) : (s.store8 pl v).lastM = s.lastM := rfl
@[simp] theorem store8_lastX (pl : Place) (v : Byte) : (s.store8 pl v).lastX = s.lastX := rfl

@[simp] theorem store16_c (pl : Place) (v : Word) : (s.store16 pl v).c = s.c := rfl
@[simp] theorem store16_x (pl : Place) (v : Word) : (s.store16 pl v).x = s.x := rfl
@[simp] theorem store16_y (pl : Place) (v : Word) : (s.store16 pl v).y = s.y := rfl
@[simp] theorem store16_sp (pl : Place) (v : Word) : (s.store16 pl v).sp = s.sp := rfl
@[simp] theorem store16_d (pl : Place) (v : Word) : (s.store16 pl v).d = s.d := rfl
@[simp] theorem store16_pc (pl : Place) (v : Word) : (s.store16 pl v).pc = s.pc := rfl
@[simp] theorem store16_dbr (pl : Place) (v : Word) : (s.store16 pl v).dbr = s.dbr := rfl
@[simp] theorem store16_pbr (pl : Place) (v : Word) : (s.store16 pl v).pbr = s.pbr := rfl
@[simp] theorem store16_p (pl : Place) (v : Word) : (s.store16 pl v).p = s.p := rfl
@[simp] theorem store16_e (pl : Place) (v : Word) : (s.store16 pl v).e = s.e := rfl
@[simp] theorem store16_waiting (pl : Place) (v : Word) : (s.store16 pl v).waiting = s.waiting := rfl
@[simp] theorem store16_stopped (pl : Place) (v : Word) : (s.store16 pl v).stopped = s.stopped := rfl
@[simp] theorem store16_nmiPending (pl : Place) (v : Word) : (s.store16 pl v).nmiPending = s.nmiPending := rfl
@[simp] theorem store16_abortPending (pl : Place) (v : Word) : (s.store16 pl v).abortPending = s.abortPending := rfl
@[simp] theorem store16_config (pl : Place) (v : Word) : (s.store16 pl v).config = s.config := rfl
@[simp] theorem store16_inputs (pl : Place) (v : Word) : (s.store16 pl v).inputs = s.inputs := rfl
@[simp] theorem store16_freeCount (pl : Place) (v : Word) : (s.store16 pl v).freeCount = s.freeCount := rfl
@[simp] theorem store16_lastM (pl : Place) (v : Word) : (s.store16 pl v).lastM = s.lastM := rfl
@[simp] theorem store16_lastX (pl : Place) (v : Word) : (s.store16 pl v).lastX = s.lastX := rfl

@[simp] theorem pull8_c : s.pull8.2.c = s.c := rfl
@[simp] theorem pull8_x : s.pull8.2.x = s.x := rfl
@[simp] theorem pull8_y : s.pull8.2.y = s.y := rfl
@[simp] theorem pull8_sp : s.pull8.2.sp = s.spAfterPull := rfl
@[simp] theorem pull8_d : s.pull8.2.d = s.d := rfl
@[simp] theorem pull8_pc : s.pull8.2.pc = s.pc := rfl
@[simp] theorem pull8_dbr : s.pull8.2.dbr = s.dbr := rfl
@[simp] theorem pull8_pbr : s.pull8.2.pbr = s.pbr := rfl
@[simp] theorem pull8_p : s.pull8.2.p = s.p := rfl
@[simp] theorem pull8_e : s.pull8.2.e = s.e := rfl
@[simp] theorem pull8_waiting : s.pull8.2.waiting = s.waiting := rfl
@[simp] theorem pull8_stopped : s.pull8.2.stopped = s.stopped := rfl
@[simp] theorem pull8_nmiPending : s.pull8.2.nmiPending = s.nmiPending := rfl
@[simp] theorem pull8_abortPending : s.pull8.2.abortPending = s.abortPending := rfl
@[simp] theorem pull8_mem : s.pull8.2.mem = s.mem := rfl
@[simp] theorem pull8_config : s.pull8.2.config = s.config := rfl
@[simp] theorem pull8_inputs : s.pull8.2.inputs = s.inputs := rfl
@[simp] theorem pull8_freeCount : s.pull8.2.freeCount = s.freeCount := rfl
@[simp] theorem pull8_lastM : s.pull8.2.lastM = s.lastM := rfl
@[simp] theorem pull8_lastX : s.pull8.2.lastX = s.lastX := rfl

@[simp] theorem pull16_c : s.pull16.2.c = s.c := rfl
@[simp] theorem pull16_x : s.pull16.2.x = s.x := rfl
@[simp] theorem pull16_y : s.pull16.2.y = s.y := rfl
@[simp] theorem pull16_d : s.pull16.2.d = s.d := rfl
@[simp] theorem pull16_pc : s.pull16.2.pc = s.pc := rfl
@[simp] theorem pull16_dbr : s.pull16.2.dbr = s.dbr := rfl
@[simp] theorem pull16_pbr : s.pull16.2.pbr = s.pbr := rfl
@[simp] theorem pull16_p : s.pull16.2.p = s.p := rfl
@[simp] theorem pull16_e : s.pull16.2.e = s.e := rfl
@[simp] theorem pull16_waiting : s.pull16.2.waiting = s.waiting := rfl
@[simp] theorem pull16_stopped : s.pull16.2.stopped = s.stopped := rfl
@[simp] theorem pull16_nmiPending : s.pull16.2.nmiPending = s.nmiPending := rfl
@[simp] theorem pull16_abortPending : s.pull16.2.abortPending = s.abortPending := rfl
@[simp] theorem pull16_mem : s.pull16.2.mem = s.mem := rfl
@[simp] theorem pull16_config : s.pull16.2.config = s.config := rfl
@[simp] theorem pull16_inputs : s.pull16.2.inputs = s.inputs := rfl
@[simp] theorem pull16_freeCount : s.pull16.2.freeCount = s.freeCount := rfl
@[simp] theorem pull16_lastM : s.pull16.2.lastM = s.lastM := rfl
@[simp] theorem pull16_lastX : s.pull16.2.lastX = s.lastX := rfl

@[simp] theorem pullNew8_c : s.pullNew8.2.c = s.c := rfl
@[simp] theorem pullNew8_x : s.pullNew8.2.x = s.x := rfl
@[simp] theorem pullNew8_y : s.pullNew8.2.y = s.y := rfl
@[simp] theorem pullNew8_sp : s.pullNew8.2.sp = s.sp + 1 := rfl
@[simp] theorem pullNew8_d : s.pullNew8.2.d = s.d := rfl
@[simp] theorem pullNew8_pc : s.pullNew8.2.pc = s.pc := rfl
@[simp] theorem pullNew8_dbr : s.pullNew8.2.dbr = s.dbr := rfl
@[simp] theorem pullNew8_pbr : s.pullNew8.2.pbr = s.pbr := rfl
@[simp] theorem pullNew8_p : s.pullNew8.2.p = s.p := rfl
@[simp] theorem pullNew8_e : s.pullNew8.2.e = s.e := rfl
@[simp] theorem pullNew8_waiting : s.pullNew8.2.waiting = s.waiting := rfl
@[simp] theorem pullNew8_stopped : s.pullNew8.2.stopped = s.stopped := rfl
@[simp] theorem pullNew8_nmiPending : s.pullNew8.2.nmiPending = s.nmiPending := rfl
@[simp] theorem pullNew8_abortPending : s.pullNew8.2.abortPending = s.abortPending := rfl
@[simp] theorem pullNew8_mem : s.pullNew8.2.mem = s.mem := rfl
@[simp] theorem pullNew8_config : s.pullNew8.2.config = s.config := rfl
@[simp] theorem pullNew8_inputs : s.pullNew8.2.inputs = s.inputs := rfl
@[simp] theorem pullNew8_freeCount : s.pullNew8.2.freeCount = s.freeCount := rfl
@[simp] theorem pullNew8_lastM : s.pullNew8.2.lastM = s.lastM := rfl
@[simp] theorem pullNew8_lastX : s.pullNew8.2.lastX = s.lastX := rfl

@[simp] theorem pullNew16_c : s.pullNew16.2.c = s.c := rfl
@[simp] theorem pullNew16_x : s.pullNew16.2.x = s.x := rfl
@[simp] theorem pullNew16_y : s.pullNew16.2.y = s.y := rfl
@[simp] theorem pullNew16_sp : s.pullNew16.2.sp = s.sp + 1 + 1 := rfl
@[simp] theorem pullNew16_d : s.pullNew16.2.d = s.d := rfl
@[simp] theorem pullNew16_pc : s.pullNew16.2.pc = s.pc := rfl
@[simp] theorem pullNew16_dbr : s.pullNew16.2.dbr = s.dbr := rfl
@[simp] theorem pullNew16_pbr : s.pullNew16.2.pbr = s.pbr := rfl
@[simp] theorem pullNew16_p : s.pullNew16.2.p = s.p := rfl
@[simp] theorem pullNew16_e : s.pullNew16.2.e = s.e := rfl
@[simp] theorem pullNew16_waiting : s.pullNew16.2.waiting = s.waiting := rfl
@[simp] theorem pullNew16_stopped : s.pullNew16.2.stopped = s.stopped := rfl
@[simp] theorem pullNew16_nmiPending : s.pullNew16.2.nmiPending = s.nmiPending := rfl
@[simp] theorem pullNew16_abortPending : s.pullNew16.2.abortPending = s.abortPending := rfl
@[simp] theorem pullNew16_mem : s.pullNew16.2.mem = s.mem := rfl
@[simp] theorem pullNew16_config : s.pullNew16.2.config = s.config := rfl
@[simp] theorem pullNew16_inputs : s.pullNew16.2.inputs = s.inputs := rfl
@[simp] theorem pullNew16_freeCount : s.pullNew16.2.freeCount = s.freeCount := rfl
@[simp] theorem pullNew16_lastM : s.pullNew16.2.lastM = s.lastM := rfl
@[simp] theorem pullNew16_lastX : s.pullNew16.2.lastX = s.lastX := rfl

@[simp] theorem endNew_c : (s.endNew).c = s.c := by
  unfold endNew; split <;> rfl
@[simp] theorem endNew_x : (s.endNew).x = s.x := by
  unfold endNew; split <;> rfl
@[simp] theorem endNew_y : (s.endNew).y = s.y := by
  unfold endNew; split <;> rfl
@[simp] theorem endNew_d : (s.endNew).d = s.d := by
  unfold endNew; split <;> rfl
@[simp] theorem endNew_pc : (s.endNew).pc = s.pc := by
  unfold endNew; split <;> rfl
@[simp] theorem endNew_dbr : (s.endNew).dbr = s.dbr := by
  unfold endNew; split <;> rfl
@[simp] theorem endNew_pbr : (s.endNew).pbr = s.pbr := by
  unfold endNew; split <;> rfl
@[simp] theorem endNew_p : (s.endNew).p = s.p := by
  unfold endNew; split <;> rfl
@[simp] theorem endNew_e : (s.endNew).e = s.e := by
  unfold endNew; split <;> rfl
@[simp] theorem endNew_waiting : (s.endNew).waiting = s.waiting := by
  unfold endNew; split <;> rfl
@[simp] theorem endNew_stopped : (s.endNew).stopped = s.stopped := by
  unfold endNew; split <;> rfl
@[simp] theorem endNew_nmiPending : (s.endNew).nmiPending = s.nmiPending := by
  unfold endNew; split <;> rfl
@[simp] theorem endNew_abortPending : (s.endNew).abortPending = s.abortPending := by
  unfold endNew; split <;> rfl
@[simp] theorem endNew_mem : (s.endNew).mem = s.mem := by
  unfold endNew; split <;> rfl
@[simp] theorem endNew_config : (s.endNew).config = s.config := by
  unfold endNew; split <;> rfl
@[simp] theorem endNew_inputs : (s.endNew).inputs = s.inputs := by
  unfold endNew; split <;> rfl
@[simp] theorem endNew_freeCount : (s.endNew).freeCount = s.freeCount := by
  unfold endNew; split <;> rfl
@[simp] theorem endNew_lastM : (s.endNew).lastM = s.lastM := by
  unfold endNew; split <;> rfl
@[simp] theorem endNew_lastX : (s.endNew).lastX = s.lastX := by
  unfold endNew; split <;> rfl

@[simp] theorem truncateIndex_c : (s.truncateIndex).c = s.c := by
  unfold truncateIndex; split <;> rfl
@[simp] theorem truncateIndex_sp : (s.truncateIndex).sp = s.sp := by
  unfold truncateIndex; split <;> rfl
@[simp] theorem truncateIndex_d : (s.truncateIndex).d = s.d := by
  unfold truncateIndex; split <;> rfl
@[simp] theorem truncateIndex_pc : (s.truncateIndex).pc = s.pc := by
  unfold truncateIndex; split <;> rfl
@[simp] theorem truncateIndex_dbr : (s.truncateIndex).dbr = s.dbr := by
  unfold truncateIndex; split <;> rfl
@[simp] theorem truncateIndex_pbr : (s.truncateIndex).pbr = s.pbr := by
  unfold truncateIndex; split <;> rfl
@[simp] theorem truncateIndex_p : (s.truncateIndex).p = s.p := by
  unfold truncateIndex; split <;> rfl
@[simp] theorem truncateIndex_e : (s.truncateIndex).e = s.e := by
  unfold truncateIndex; split <;> rfl
@[simp] theorem truncateIndex_waiting : (s.truncateIndex).waiting = s.waiting := by
  unfold truncateIndex; split <;> rfl
@[simp] theorem truncateIndex_stopped : (s.truncateIndex).stopped = s.stopped := by
  unfold truncateIndex; split <;> rfl
@[simp] theorem truncateIndex_nmiPending : (s.truncateIndex).nmiPending = s.nmiPending := by
  unfold truncateIndex; split <;> rfl
@[simp] theorem truncateIndex_abortPending : (s.truncateIndex).abortPending = s.abortPending := by
  unfold truncateIndex; split <;> rfl
@[simp] theorem truncateIndex_mem : (s.truncateIndex).mem = s.mem := by
  unfold truncateIndex; split <;> rfl
@[simp] theorem truncateIndex_config : (s.truncateIndex).config = s.config := by
  unfold truncateIndex; split <;> rfl
@[simp] theorem truncateIndex_inputs : (s.truncateIndex).inputs = s.inputs := by
  unfold truncateIndex; split <;> rfl
@[simp] theorem truncateIndex_freeCount : (s.truncateIndex).freeCount = s.freeCount := by
  unfold truncateIndex; split <;> rfl
@[simp] theorem truncateIndex_lastM : (s.truncateIndex).lastM = s.lastM := by
  unfold truncateIndex; split <;> rfl
@[simp] theorem truncateIndex_lastX : (s.truncateIndex).lastX = s.lastX := by
  unfold truncateIndex; split <;> rfl

@[simp] theorem loadP_c (b : Byte) : (s.loadP b).c = s.c := by
  unfold loadP; rw [truncateIndex_c]
@[simp] theorem loadP_sp (b : Byte) : (s.loadP b).sp = s.sp := by
  unfold loadP; rw [truncateIndex_sp]
@[simp] theorem loadP_d (b : Byte) : (s.loadP b).d = s.d := by
  unfold loadP; rw [truncateIndex_d]
@[simp] theorem loadP_pc (b : Byte) : (s.loadP b).pc = s.pc := by
  unfold loadP; rw [truncateIndex_pc]
@[simp] theorem loadP_dbr (b : Byte) : (s.loadP b).dbr = s.dbr := by
  unfold loadP; rw [truncateIndex_dbr]
@[simp] theorem loadP_pbr (b : Byte) : (s.loadP b).pbr = s.pbr := by
  unfold loadP; rw [truncateIndex_pbr]
@[simp] theorem loadP_e (b : Byte) : (s.loadP b).e = s.e := by
  unfold loadP; rw [truncateIndex_e]
@[simp] theorem loadP_waiting (b : Byte) : (s.loadP b).waiting = s.waiting := by
  unfold loadP; rw [truncateIndex_waiting]
@[simp] theorem loadP_stopped (b : Byte) : (s.loadP b).stopped = s.stopped := by
  unfold loadP; rw [truncateIndex_stopped]
@[simp] theorem loadP_nmiPending (b : Byte) : (s.loadP b).nmiPending = s.nmiPending := by
  unfold loadP; rw [truncateIndex_nmiPending]
@[simp] theorem loadP_abortPending (b : Byte) : (s.loadP b).abortPending = s.abortPending := by
  unfold loadP; rw [truncateIndex_abortPending]
@[simp] theorem loadP_mem (b : Byte) : (s.loadP b).mem = s.mem := by
  unfold loadP; rw [truncateIndex_mem]
@[simp] theorem loadP_config (b : Byte) : (s.loadP b).config = s.config := by
  unfold loadP; rw [truncateIndex_config]
@[simp] theorem loadP_inputs (b : Byte) : (s.loadP b).inputs = s.inputs := by
  unfold loadP; rw [truncateIndex_inputs]
@[simp] theorem loadP_freeCount (b : Byte) : (s.loadP b).freeCount = s.freeCount := by
  unfold loadP; rw [truncateIndex_freeCount]
@[simp] theorem loadP_lastM (b : Byte) : (s.loadP b).lastM = s.lastM := by
  unfold loadP; rw [truncateIndex_lastM]
@[simp] theorem loadP_lastX (b : Byte) : (s.loadP b).lastX = s.lastX := by
  unfold loadP; rw [truncateIndex_lastX]

@[simp] theorem writeBack8_c (pl : Place) (old new : Byte) : (s.writeBack8 pl old new).c = s.c := by
  unfold writeBack8; split <;> rfl
@[simp] theorem writeBack8_x (pl : Place) (old new : Byte) : (s.writeBack8 pl old new).x = s.x := by
  unfold writeBack8; split <;> rfl
@[simp] theorem writeBack8_y (pl : Place) (old new : Byte) : (s.writeBack8 pl old new).y = s.y := by
  unfold writeBack8; split <;> rfl
@[simp] theorem writeBack8_sp (pl : Place) (old new : Byte) : (s.writeBack8 pl old new).sp = s.sp := by
  unfold writeBack8; split <;> rfl
@[simp] theorem writeBack8_d (pl : Place) (old new : Byte) : (s.writeBack8 pl old new).d = s.d := by
  unfold writeBack8; split <;> rfl
@[simp] theorem writeBack8_pc (pl : Place) (old new : Byte) : (s.writeBack8 pl old new).pc = s.pc := by
  unfold writeBack8; split <;> rfl
@[simp] theorem writeBack8_dbr (pl : Place) (old new : Byte) : (s.writeBack8 pl old new).dbr = s.dbr := by
  unfold writeBack8; split <;> rfl
@[simp] theorem writeBack8_pbr (pl : Place) (old new : Byte) : (s.writeBack8 pl old new).pbr = s.pbr := by
  unfold writeBack8; split <;> rfl
@[simp] theorem writeBack8_p (pl : Place) (old new : Byte) : (s.writeBack8 pl old new).p = s.p := by
  unfold writeBack8; split <;> rfl
@[simp] theorem writeBack8_e (pl : Place) (old new : Byte) : (s.writeBack8 pl old new).e = s.e := by
  unfold writeBack8; split <;> rfl
@[simp] theorem writeBack8_waiting (pl : Place) (old new : Byte) : (s.writeBack8 pl old new).waiting = s.waiting := by
  unfold writeBack8; split <;> rfl
@[simp] theorem writeBack8_stopped (pl : Place) (old new : Byte) : (s.writeBack8 pl old new).stopped = s.stopped := by
  unfold writeBack8; split <;> rfl
@[simp] theorem writeBack8_nmiPending (pl : Place) (old new : Byte) : (s.writeBack8 pl old new).nmiPending = s.nmiPending := by
  unfold writeBack8; split <;> rfl
@[simp] theorem writeBack8_abortPending (pl : Place) (old new : Byte) : (s.writeBack8 pl old new).abortPending = s.abortPending := by
  unfold writeBack8; split <;> rfl
@[simp] theorem writeBack8_config (pl : Place) (old new : Byte) : (s.writeBack8 pl old new).config = s.config := by
  unfold writeBack8; split <;> rfl
@[simp] theorem writeBack8_inputs (pl : Place) (old new : Byte) : (s.writeBack8 pl old new).inputs = s.inputs := by
  unfold writeBack8; split <;> rfl
@[simp] theorem writeBack8_freeCount (pl : Place) (old new : Byte) : (s.writeBack8 pl old new).freeCount = s.freeCount := by
  unfold writeBack8; split <;> rfl
@[simp] theorem writeBack8_lastM (pl : Place) (old new : Byte) : (s.writeBack8 pl old new).lastM = s.lastM := by
  unfold writeBack8; split <;> rfl
@[simp] theorem writeBack8_lastX (pl : Place) (old new : Byte) : (s.writeBack8 pl old new).lastX = s.lastX := by
  unfold writeBack8; split <;> rfl

@[simp] theorem writeBack16_c (pl : Place) (new : Word) : (s.writeBack16 pl new).c = s.c := rfl
@[simp] theorem writeBack16_x (pl : Place) (new : Word) : (s.writeBack16 pl new).x = s.x := rfl
@[simp] theorem writeBack16_y (pl : Place) (new : Word) : (s.writeBack16 pl new).y = s.y := rfl
@[simp] theorem writeBack16_sp (pl : Place) (new : Word) : (s.writeBack16 pl new).sp = s.sp := rfl
@[simp] theorem writeBack16_d (pl : Place) (new : Word) : (s.writeBack16 pl new).d = s.d := rfl
@[simp] theorem writeBack16_pc (pl : Place) (new : Word) : (s.writeBack16 pl new).pc = s.pc := rfl
@[simp] theorem writeBack16_dbr (pl : Place) (new : Word) : (s.writeBack16 pl new).dbr = s.dbr := rfl
@[simp] theorem writeBack16_pbr (pl : Place) (new : Word) : (s.writeBack16 pl new).pbr = s.pbr := rfl
@[simp] theorem writeBack16_p (pl : Place) (new : Word) : (s.writeBack16 pl new).p = s.p := rfl
@[simp] theorem writeBack16_e (pl : Place) (new : Word) : (s.writeBack16 pl new).e = s.e := rfl
@[simp] theorem writeBack16_waiting (pl : Place) (new : Word) : (s.writeBack16 pl new).waiting = s.waiting := rfl
@[simp] theorem writeBack16_stopped (pl : Place) (new : Word) : (s.writeBack16 pl new).stopped = s.stopped := rfl
@[simp] theorem writeBack16_nmiPending (pl : Place) (new : Word) : (s.writeBack16 pl new).nmiPending = s.nmiPending := rfl
@[simp] theorem writeBack16_abortPending (pl : Place) (new : Word) : (s.writeBack16 pl new).abortPending = s.abortPending := rfl
@[simp] theorem writeBack16_config (pl : Place) (new : Word) : (s.writeBack16 pl new).config = s.config := rfl
@[simp] theorem writeBack16_inputs (pl : Place) (new : Word) : (s.writeBack16 pl new).inputs = s.inputs := rfl
@[simp] theorem writeBack16_freeCount (pl : Place) (new : Word) : (s.writeBack16 pl new).freeCount = s.freeCount := rfl
@[simp] theorem writeBack16_lastM (pl : Place) (new : Word) : (s.writeBack16 pl new).lastM = s.lastM := rfl
@[simp] theorem writeBack16_lastX (pl : Place) (new : Word) : (s.writeBack16 pl new).lastX = s.lastX := rfl

@[simp] theorem loadP_p (b : Byte) : (s.loadP b).p = s.p.ofPulled s.e b := by
  unfold loadP truncateIndex; split <;> rfl

@[simp] theorem writeByte_m8 (a : Addr) (v : Byte) : (s.writeByte a v).m8 = s.m8 := rfl
@[simp] theorem writeByte_x8 (a : Addr) (v : Byte) : (s.writeByte a v).x8 = s.x8 := rfl
@[simp] theorem advance_m8 (n : Nat) : (s.advance n).m8 = s.m8 := rfl
@[simp] theorem advance_x8 (n : Nat) : (s.advance n).x8 = s.x8 := rfl
@[simp] theorem advance_acc (n w : Nat) : (s.advance n).acc w = s.acc w := rfl
@[simp] theorem advance_readByte (n : Nat) (a : Addr) : (s.advance n).readByte a = s.readByte a := rfl
@[simp] theorem advance_place (n : Nat) (m : MemMode) : (s.advance n).place m = s.place m := by cases m <;> rfl

@[simp] theorem advance_operand8 (n : Nat) (src : Src) : (s.advance n).operand8 src = s.operand8 src := by
  cases src with
  | imm v => cases v <;> rfl
  | mem m => simp [operand8, load8]

@[simp] theorem advance_operand16 (n : Nat) (src : Src) : (s.advance n).operand16 src = s.operand16 src := by
  cases src with
  | imm v => cases v <;> rfl
  | mem m => simp [operand16, load16]

end Sys2Proof.Machine.State
end

