-- ==== Sys2Proof/Laws/Ops.lean ====
section
/-! SUPPORT. One lemma per shared operation, saying once everything it can do: pushes, pulls, interrupt entry and return,
the reset sequence, the read-modify-write frame, the fetch, the boundary and the answer of `exec`. -/

namespace Sys2Proof.Machine

open Sys2Proof

namespace State

variable (s : State)

/-! ### Pushes and pulls -/

/-- A push stores one byte and moves S (R220); nothing else changes. -/
theorem push8_eq (v : Byte) :
    s.push8 v = { s with mem := s.mem.write (physAddr s.config.variant (bank0 s.sp)) v, sp := s.spAfterPush } := rfl

/-- A `New` push stores one byte and moves all 16 bits of S (R222). -/
theorem pushNew8_eq (v : Byte) :
    s.pushNew8 v = { s with mem := s.mem.write (physAddr s.config.variant (bank0 s.sp)) v, sp := s.sp - 1 } := rfl

/-- A byte after a push: the pushed one at the slot, the old one elsewhere. -/
theorem readByte_push8 (v : Byte) (a : Addr) :
    (s.push8 v).readByte a
      = if physAddr s.config.variant a = physAddr s.config.variant (bank0 s.sp) then v else s.readByte a :=
  readByte_writeByte s (bank0 s.sp) a v

/-- A byte after a `New` push. -/
theorem readByte_pushNew8 (v : Byte) (a : Addr) :
    (s.pushNew8 v).readByte a
      = if physAddr s.config.variant a = physAddr s.config.variant (bank0 s.sp) then v else s.readByte a :=
  readByte_writeByte s (bank0 s.sp) a v

/-- A pull reads one byte and moves S (R221). -/
theorem pull8_eq : s.pull8 = (s.readByte (bank0 s.spAfterPull), { s with sp := s.spAfterPull }) := rfl

/-- `EndNew` writes S at most (R222). -/
theorem endNew_eq : s.endNew = { s with sp := if s.e then mkWord 0x01 (loByte s.sp) else s.sp } := by
  unfold endNew; split <;> rfl

/-- What `truncateIndex` writes: XH and YH, in Native mode with X = 1 (R22). -/
theorem truncateIndex_eq :
    s.truncateIndex =
      { s with
        x := if !s.e && s.p.x then zext16 (loByte s.x) else s.x
        y := if !s.e && s.p.x then zext16 (loByte s.y) else s.y } := by
  unfold truncateIndex; split <;> rfl

/-- What a byte pulled into P does (R237). -/
theorem loadP_eq (b : Byte) : s.loadP b = { s with p := s.p.ofPulled s.e b }.truncateIndex := rfl

/-! ### Interrupts and reset -/

/-- The interrupt sequence (R320) writes memory and S through its pushes, then D, I, PBR, PC and the latch of its source;
nothing else. -/
theorem takeInterrupt_eq (k : Interrupt) (r : Word) :
    s.takeInterrupt k r =
      { s with
        sp := (s.stackInterrupt k r).sp
        mem := (s.stackInterrupt k r).mem
        p := { s.p with d := false, i := true }
        pbr := 0
        pc := (s.stackInterrupt k r).readWord0 (k.vector s.e)
        nmiPending := if k = .nmi then false else s.nmiPending
        abortPending := if k = .abort then false else s.abortPending } := by
  unfold takeInterrupt stackInterrupt
  by_cases h : s.e = true <;> simp [h]

/-- RTI in Emulation mode: P, then PC; three bytes pulled (R277). -/
theorem returnFromInterrupt_emulation (h : s.e = true) :
    s.returnFromInterrupt
      = { (s.pull8.2.loadP s.pull8.1).pull16.2 with pc := (s.pull8.2.loadP s.pull8.1).pull16.1 } := by
  simp [returnFromInterrupt, h]

/-- RTI in Native mode: P, PC and PBR; four bytes pulled (R277). -/
theorem returnFromInterrupt_native (h : s.e = false) :
    s.returnFromInterrupt
      = { (s.pull8.2.loadP s.pull8.1).pull16.2.pull8.2 with
          pc := (s.pull8.2.loadP s.pull8.1).pull16.1
          pbr := (s.pull8.2.loadP s.pull8.1).pull16.2.pull8.1 } := by
  unfold returnFromInterrupt
  rw [if_neg (by simp [h])]
  rfl

/-- The reset sequence leaves memory, the configuration and the inputs alone (R351, R352). -/
theorem resetSequence_keeps :
    s.resetSequence.mem = s.mem ∧ s.resetSequence.config = s.config ∧ s.resetSequence.inputs = s.inputs :=
  ⟨rfl, rfl, rfl⟩

/-! ### Read-modify-write -/

/-- A read-modify-write of memory writes memory and P; nothing else (R180). -/
theorem modifyMem_eq (f : RmwFn) (m : MemMode) :
    s.modifyMem f m = { s with mem := (s.modifyMem f m).mem, p := (s.modifyMem f m).p } := by
  unfold modifyMem
  cases s.m8 <;> simp

/-- A read-modify-write of the accumulator writes C and P; nothing else (R180). -/
theorem modifyAcc_eq (f : RmwFn) : s.modifyAcc f = { s with c := (s.modifyAcc f).c, p := (s.modifyAcc f).p } := by
  unfold modifyAcc
  cases s.m8 <;> simp

end State

/-! ### Decoding, execution, the boundary -/

/-- Four bytes always hold an instruction: no layout takes more (R95). -/
theorem decode_four (m8 x8 : Bool) (a b c d : Byte) : ∃ r, decode m8 x8 [a, b, c, d] = .ok r := by
  simp only [decode]
  cases rowOf a <;> cases m8 <;> cases x8 <;> exact ⟨_, rfl⟩

/-- The fetch of a step always finds an instruction. -/
theorem fetch_ok (s : State) : ∃ i, s.fetch = .ok i := by
  obtain ⟨r, h⟩ := decode_four s.m8 s.x8 (s.readK s.pc) (s.readK (s.pc + 1)) (s.readK (s.pc + 2)) (s.readK (s.pc + 3))
  exact ⟨r.1, by simp only [State.fetch, State.fetchBytes]; rw [h]⟩

/-- Every instruction answers a next state in every state. -/
theorem exec_next (i : Instr) (s : State) : ∃ t, exec i s = .next t := by
  cases i <;> exact ⟨_, rfl⟩

/-- What a step without ABORT executes: the instruction the fetch finds. -/
theorem runInstruction_cases (s : State) : ∃ i t, s.fetch = .ok i ∧ exec i s = .next t ∧ s.runInstruction = .next t := by
  obtain ⟨i, hi⟩ := fetch_ok s
  obtain ⟨t, ht⟩ := exec_next i s
  exact ⟨i, t, hi, ht, by simp only [State.runInstruction]; rw [hi]; exact ht⟩

/-- What an ABORT in time leaves: memory may change, nothing else (R314). -/
theorem discard_eq (s t : State) : s.discard t = { s with mem := if s.config.abortWrites then t.mem else s.mem } := rfl

/-- What a late ABORT leaves: P, PBR and DBR, and what follows from them; nothing else but memory, the latch and the counter
(R314; log 24). -/
theorem discardLate_eq (s t : State) :
    s.discardLate t =
      { s with
        p := t.p
        pbr := t.pbr
        dbr := t.dbr
        x := if !s.e && t.p.x then zext16 (loByte s.x) else s.x
        y := if !s.e && t.p.x then zext16 (loByte s.y) else s.y
        mem := if s.config.abortWrites then t.mem else s.mem
        nmiPending := t.nmiPending || (s.nmiPending && Config.latchKeptByLateAbort s.freeCount)
        freeCount := s.freeCount + 1 } := by
  unfold State.discardLate
  rw [State.truncateIndex_eq]
  rfl

@[simp] theorem interrupted_zero (s : State) (k : Interrupt) (r : Word) : s.interrupted 0 k r = s.takeInterrupt k r := rfl

@[simp] theorem interrupted_succ (s : State) (n : Nat) (k : Interrupt) (r : Word) :
    s.interrupted (n + 1) k r = (s.discardLate (s.takeInterrupt k r)).interrupted n .abort r := rfl

/-- However many ABORTs come late, what is left is an interrupt sequence with the same return address, and what a sequence
and a late ABORT keep is kept: any property of the state that a late ABORT of a sequence preserves holds where it begins. -/
theorem interrupted_cases (Q : State → Prop) (s : State) (n : Nat) (k : Interrupt) (r : Word) (hs : Q s)
    (keep : ∀ u j, Q u → Q (u.discardLate (u.takeInterrupt j r))) :
    ∃ u j, Q u ∧ (j = k ∨ j = .abort) ∧ s.interrupted n k r = u.takeInterrupt j r := by
  induction n generalizing s k with
  | zero => exact ⟨s, k, hs, .inl rfl, rfl⟩
  | succ n ih =>
    obtain ⟨u, j, hu, hj, h⟩ := ih _ .abort (keep s k hs)
    exact ⟨u, j, hu, .inr (hj.elim id id), h⟩

/-- What a step executes under no ABORT in time: the instruction the fetch finds, whole, or a late ABORT of it (R314). -/
theorem runUnaborted_cases (s : State) (late : Nat) : ∃ i t, s.fetch = .ok i ∧ exec i s = .next t ∧
    (((late = 0 ∨ hasLastAbortableCycle i = false) ∧ s.runUnaborted late = .next t) ∨
      ∃ n, late = n + 1 ∧ hasLastAbortableCycle i = true ∧
        s.runUnaborted late = .next ((s.discardLate t).interrupted n .abort s.pc)) := by
  obtain ⟨i, t, hi, ht, hr⟩ := runInstruction_cases s
  refine ⟨i, t, hi, ht, ?_⟩
  cases late with
  | zero => exact .inl ⟨.inl rfl, hr⟩
  | succ n => cases h : hasLastAbortableCycle i <;> simp [State.runUnaborted, hi, hr, h]

/-- Everything one boundary can answer (R316, R317), with `s` the state after the events between the steps. -/
theorem boundary_cases (s : State) (inp : StepInput) :
    (inp.res = true ∧ s.boundary inp = .next s.resetSequence) ∨
    (s.stopped = true ∧ s.boundary inp = .next s) ∨
    (s.waiting = true ∧ s.boundary inp = .next (s.waitStep inp)) ∨
    (s.aborted inp = true ∧ ∃ i t, s.fetch = .ok i ∧ exec i s = .next t ∧
      s.boundary inp = .next ((s.discard t).interrupted (s.lateAborts inp) .abort s.pc)) ∨
    (s.aborted inp = false ∧ s.nmiPending = true ∧
      s.boundary inp = .next (s.interrupted (s.lateAborts inp) .nmi s.pc)) ∨
    (s.aborted inp = false ∧ inp.irqLow = true ∧ s.p.i = false ∧
      s.boundary inp = .next (s.interrupted (s.lateAborts inp) .irq s.pc)) ∨
    (s.aborted inp = false ∧ s.boundary inp = s.runUnaborted (s.lateAborts inp)) := by
  obtain ⟨i, t, hi, ht, hr⟩ := runInstruction_cases s
  unfold State.boundary
  by_cases h1 : inp.res = true
  · exact .inl ⟨h1, by simp [h1]⟩
  by_cases h2 : s.stopped = true
  · exact .inr (.inl ⟨h2, by simp [h1, h2]⟩)
  by_cases h3 : s.waiting = true
  · exact .inr (.inr (.inl ⟨h3, by simp [h1, h2, h3]⟩))
  by_cases h4 : s.aborted inp = true
  · exact .inr (.inr (.inr (.inl ⟨h4, i, t, hi, ht, by simp [h1, h2, h3, h4, State.runAborted, hr]⟩)))
  have h4' : s.aborted inp = false := by simpa using h4
  by_cases h5 : s.nmiPending = true
  · exact .inr (.inr (.inr (.inr (.inl ⟨h4', h5, by simp [h1, h2, h3, h4', h5]⟩))))
  by_cases h6 : inp.irqLow = true ∧ s.p.i = false
  · exact .inr (.inr (.inr (.inr (.inr (.inl ⟨h4', h6.1, h6.2, by simp [h1, h2, h3, h4', h5, h6]⟩)))))
  have h6' : (inp.irqLow && !s.p.i) = false := by
    cases ha : inp.irqLow <;> cases hb : s.p.i <;> simp_all
  exact .inr (.inr (.inr (.inr (.inr (.inr ⟨h4', by simp [h1, h2, h3, h4', h5, h6']⟩)))))

/-- Another master's writes change memory alone (R80). -/
theorem applyBusWrites_eq (s : State) (ws : List (Addr × Byte)) :
    s.applyBusWrites ws = { s with mem := (s.applyBusWrites ws).mem } := by
  induction ws generalizing s with
  | nil => rfl
  | cons w rest ih => exact (ih (s.writeByte w.1 w.2)).trans rfl

/-- Everything the events between two steps can write (R47, R80, R340, R343): the input list, memory, V, the NMI latch, and
the note of M and X. -/
theorem takeEvents_eq (s : State) (inp : StepInput) :
    s.takeEvents inp =
      { s with
        inputs := s.inputs.tail
        mem := (s.enterStep.applyBusWrites inp.busWrites).mem
        p := { s.p with v := s.p.v || (s.hasSo && inp.soEdge) }
        nmiPending := s.nmiPending || (inp.nmiEdge && !s.stopped)
        lastM := s.p.m
        lastX := s.p.x
        freeCount := if s.mxJustChanged then s.freeCount + 1 else s.freeCount } := by
  unfold State.takeEvents
  rw [applyBusWrites_eq]
  rfl

/-- One step is the boundary after the events between the steps. -/
theorem step_eq (s : State) : step s = (s.takeEvents s.input).boundary s.input := rfl

end Sys2Proof.Machine
end

