-- ==== Sys2Proof/Laws/Bus.lean ====
section
/-! SUPPORT. What the access lists of `Bus.lean` do to memory: reads nothing, pushes what the push operations write, the
interrupt sequence what `takeInterrupt` leaves; and the values of the pins by part. -/

namespace Sys2Proof.Machine

open Sys2Proof

@[simp] theorem Access.read_written (k : AccessKind) (a : Addr) : (Access.read k a).written = none := rfl
@[simp] theorem Access.write_written (a : Addr) (b : Byte) : (Access.write a b).written = some b := rfl
@[simp] theorem Access.lock_written (x : Access) : x.lock.written = x.written := rfl

@[simp] theorem Access.apply_read (v : Variant) (m : Memory) (k : AccessKind) (a : Addr) :
    (Access.read k a).apply v m = m := rfl

@[simp] theorem Access.apply_write (v : Variant) (m : Memory) (a : Addr) (b : Byte) :
    (Access.write a b).apply v m = m.write (physAddr v a) b := rfl

@[simp] theorem Access.apply_lock (v : Variant) (m : Memory) (x : Access) : x.lock.apply v m = x.apply v m := rfl

/-- A list of reads leaves memory alone. -/
theorem foldl_reads (v : Variant) (m : Memory) (xs : List Access) (h : ∀ x ∈ xs, x.written = none) :
    xs.foldl (Access.apply v) m = m := by
  induction xs generalizing m with
  | nil => rfl
  | cons x rest ih =>
    have hx : x.apply v m = m := by simp [Access.apply, h x (by simp)]
    rw [List.foldl_cons, hx]
    exact ih m fun y hy => h y (by simp [hy])

/-- Locking the accesses changes nothing in memory. -/
theorem foldl_lock (v : Variant) (m : Memory) (xs : List Access) :
    (xs.map Access.lock).foldl (Access.apply v) m = xs.foldl (Access.apply v) m := by
  induction xs generalizing m with
  | nil => rfl
  | cons x rest ih => simpa using ih (x.apply v m)

namespace State

variable (s : State)

theorem fetchAccesses_reads (n : Nat) : ∀ x ∈ s.fetchAccesses n, x.written = none := by
  intro x h
  obtain ⟨k, -, rfl⟩ := List.mem_map.mp h
  rfl

theorem bank0Reads_reads (p : Word) (n : Nat) : ∀ x ∈ bank0Reads p n, x.written = none := by
  intro x h
  obtain ⟨k, -, rfl⟩ := List.mem_map.mp h
  rfl

theorem pointerAccesses_reads (m : MemMode) : ∀ x ∈ s.pointerAccesses m, x.written = none := by
  cases m <;> simp [pointerAccesses, pointer16] <;> exact fun x h => bank0Reads_reads _ _ x h

theorem placeReads_reads (narrow : Bool) (pl : Place) : ∀ x ∈ placeReads narrow pl, x.written = none := by
  cases narrow <;> simp [placeReads]

theorem sourceAccesses_reads (narrow : Bool) (src : Src) : ∀ x ∈ s.sourceAccesses narrow src, x.written = none := by
  cases src with
  | imm v => simp [sourceAccesses]
  | mem m =>
    intro x h
    rcases List.mem_append.mp h with h | h
    · exact s.pointerAccesses_reads m x h
    · exact placeReads_reads _ _ x h

theorem pullAccesses_reads (n : Nat) : ∀ x ∈ s.pullAccesses n, x.written = none := by
  induction n generalizing s with
  | zero => simp [pullAccesses]
  | succ n ih => simpa [pullAccesses] using ih s.pull8.2

theorem pullNewAccesses_reads (n : Nat) : ∀ x ∈ s.pullNewAccesses n, x.written = none := by
  induction n generalizing s with
  | zero => simp [pullNewAccesses]
  | succ n ih => simpa [pullNewAccesses] using ih s.pullNew8.2

/-- The push accesses leave the memory that the pushes leave. -/
theorem foldl_pushAccesses (bytes : List Byte) :
    (s.pushAccesses bytes).foldl (Access.apply s.config.variant) s.mem = (bytes.foldl push8 s).mem := by
  induction bytes generalizing s with
  | nil => rfl
  | cons b rest ih => exact ih (s.push8 b)

/-- The `New` push accesses leave the memory that the `New` pushes leave. -/
theorem foldl_pushNewAccesses (bytes : List Byte) :
    (s.pushNewAccesses bytes).foldl (Access.apply s.config.variant) s.mem = (bytes.foldl pushNew8 s).mem := by
  induction bytes generalizing s with
  | nil => rfl
  | cons b rest ih => exact ih (s.pushNew8 b)

/-- The bytes `interruptBytes` lists are those the sequence stacks. -/
theorem foldl_interruptBytes (k : Interrupt) (r : Word) :
    (s.interruptBytes k r).foldl push8 s = s.stackInterrupt k r := by
  cases h : s.e <;> simp [interruptBytes, stackInterrupt, push16, h]

/-- The interrupt accesses leave the memory that the sequence leaves. -/
theorem foldl_interruptAccesses (k : Interrupt) (r : Word) :
    (s.interruptAccesses k r).foldl (Access.apply s.config.variant) s.mem = (s.takeInterrupt k r).mem := by
  rw [interruptAccesses, List.foldl_append, foldl_pushAccesses, foldl_interruptBytes]
  rfl

/-- The accesses of a sequence do not depend on memory. -/
theorem interruptAccesses_mem (m : Memory) (k : Interrupt) (r : Word) :
    State.interruptAccesses { s with mem := m } k r = s.interruptAccesses k r := by
  have push (bytes : List Byte) : ∀ (s : State) (m : Memory),
      State.pushAccesses { s with mem := m } bytes = s.pushAccesses bytes := by
    induction bytes with
    | nil => exact fun _ _ => rfl
    | cons b rest ih =>
      intro s m
      exact congrArg (Access.write (bank0 s.sp) b :: ·)
        ((ih (s.push8 b) ((m.write (physAddr s.config.variant (bank0 s.sp)) b))).trans rfl)
  simpa [interruptAccesses, interruptBytes] using push _ s m

/-- What a discarded instruction or sequence writes on the bus is what `discard` leaves in memory (R314). -/
theorem foldl_discardedAccesses (t : State) (xs : List Access)
    (h : xs.foldl (Access.apply s.config.variant) s.mem = t.mem) :
    (s.discardedAccesses xs).foldl (Access.apply s.config.variant) s.mem = (s.discard t).mem := by
  cases hw : s.config.abortWrites with
  | true => simpa [discardedAccesses, discard, hw] using h
  | false =>
    have reads : ∀ x ∈ xs.filter (fun x => x.written.isNone), x.written = none := by simp
    simpa [discardedAccesses, discard, hw] using foldl_reads s.config.variant s.mem _ reads

/-- The accesses of a sequence under late ABORTs leave the memory that it leaves. -/
theorem foldl_interruptedAccesses (n : Nat) (k : Interrupt) (r : Word) :
    (s.interruptedAccesses n k r).foldl (Access.apply s.config.variant) s.mem = (s.interrupted n k r).mem := by
  induction n generalizing s k with
  | zero => exact s.foldl_interruptAccesses k r
  | succ n ih =>
    have hc : (s.discardLate (s.takeInterrupt k r)).config = s.config := by rw [discardLate_eq]
    have hm : (s.discardLate (s.takeInterrupt k r)).mem = (s.discard (s.takeInterrupt k r)).mem := by
      rw [discardLate_eq, discard_eq]
    rw [interruptedAccesses, List.foldl_append, s.foldl_discardedAccesses _ _ (s.foldl_interruptAccesses k r), ← hm, ← hc]
    exact ih _ .abort

/-- Outside the invalid cycles M/X shows the flags (R45). -/
@[simp] theorem mxLevels_valid (n : Nat) : s.mxLevels false n = (s.p.m, s.p.x) := rfl

/-- After the events of a step nothing counts as just changed: M and X are noted as the step finds them. -/
theorem takeEvents_mxJustChanged (inp : StepInput) : (s.takeEvents inp).mxJustChanged = false := by
  rw [takeEvents_eq]
  simp [mxJustChanged]

/-- Reset leaves M/X settled at 1 (R351). -/
@[simp] theorem resetSequence_mxJustChanged : s.resetSequence.mxJustChanged = false := rfl

/-- The high operand byte JSR `(a,x)` fetches: a pushed byte that lies over it, or else its own (R72). -/
theorem lateOperand_eq (a : Word) :
    s.lateOperand a = mkWord
      (if physAddr s.config.variant (mkAddr s.pbr (s.pc + 2)) = physAddr s.config.variant (bank0 (s.sp - 1))
        then loByte (s.pc + 2)
        else if physAddr s.config.variant (mkAddr s.pbr (s.pc + 2)) = physAddr s.config.variant (bank0 s.sp)
        then hiByte (s.pc + 2) else hiByte a) (loByte a) := by
  simp [lateOperand, pushNew16, pushNew8, readK, readByte, writeByte]

end State

end Sys2Proof.Machine
end

