-- ==== Sys2Proof/Laws/PerInstr.lean ====
section
/-! SUPPORT. Lemmas stated per instruction: the encoder writes as many bytes as R95 gives the instruction. -/

namespace Sys2Proof.Laws.EncodeLength

open Sys2Proof

/-- The encoding of the instruction has the length of R95. -/
def Statement (i : Instr) : Prop := (encode i).length = i.length

/-- An immediate encodes to as many bytes as it has (R93). -/
theorem imm_encode_length (v : Imm) : v.encode.length = v.bytes := by cases v <;> rfl

theorem brk (sig : Byte) : Statement (.brk sig) := rfl
theorem oraDirXInd (o : Byte) : Statement (.oraDirXInd o) := rfl
theorem cop (sig : Byte) : Statement (.cop sig) := rfl
theorem oraStkRel (o : Byte) : Statement (.oraStkRel o) := rfl
theorem tsbDir (o : Byte) : Statement (.tsbDir o) := rfl
theorem oraDir (o : Byte) : Statement (.oraDir o) := rfl
theorem aslDir (o : Byte) : Statement (.aslDir o) := rfl
theorem oraDirIndLong (o : Byte) : Statement (.oraDirIndLong o) := rfl
theorem php : Statement (.php) := rfl
theorem oraImm (v : Imm) : Statement (.oraImm v) := by simp [Statement, encode, imm_encode_length, Instr.length, Instr.view, Src.bytes, Nat.add_comm]
theorem aslAcc : Statement (.aslAcc) := rfl
theorem phd : Statement (.phd) := rfl
theorem tsbAbs (a : Word) : Statement (.tsbAbs a) := rfl
theorem oraAbs (a : Word) : Statement (.oraAbs a) := rfl
theorem aslAbs (a : Word) : Statement (.aslAbs a) := rfl
theorem oraLong (a : Addr) : Statement (.oraLong a) := rfl
theorem bpl (r : Byte) : Statement (.bpl r) := rfl
theorem oraDirIndY (o : Byte) : Statement (.oraDirIndY o) := rfl
theorem oraDirInd (o : Byte) : Statement (.oraDirInd o) := rfl
theorem oraStkRelIndY (o : Byte) : Statement (.oraStkRelIndY o) := rfl
theorem trbDir (o : Byte) : Statement (.trbDir o) := rfl
theorem oraDirX (o : Byte) : Statement (.oraDirX o) := rfl
theorem aslDirX (o : Byte) : Statement (.aslDirX o) := rfl
theorem oraDirIndLongY (o : Byte) : Statement (.oraDirIndLongY o) := rfl
theorem clc : Statement (.clc) := rfl
theorem oraAbsY (a : Word) : Statement (.oraAbsY a) := rfl
theorem incAcc : Statement (.incAcc) := rfl
theorem tcs : Statement (.tcs) := rfl
theorem trbAbs (a : Word) : Statement (.trbAbs a) := rfl
theorem oraAbsX (a : Word) : Statement (.oraAbsX a) := rfl
theorem aslAbsX (a : Word) : Statement (.aslAbsX a) := rfl
theorem oraLongX (a : Addr) : Statement (.oraLongX a) := rfl
theorem jsrAbs (a : Word) : Statement (.jsrAbs a) := rfl
theorem andDirXInd (o : Byte) : Statement (.andDirXInd o) := rfl
theorem jsl (a : Addr) : Statement (.jsl a) := rfl
theorem andStkRel (o : Byte) : Statement (.andStkRel o) := rfl
theorem bitDir (o : Byte) : Statement (.bitDir o) := rfl
theorem andDir (o : Byte) : Statement (.andDir o) := rfl
theorem rolDir (o : Byte) : Statement (.rolDir o) := rfl
theorem andDirIndLong (o : Byte) : Statement (.andDirIndLong o) := rfl
theorem plp : Statement (.plp) := rfl
theorem andImm (v : Imm) : Statement (.andImm v) := by simp [Statement, encode, imm_encode_length, Instr.length, Instr.view, Src.bytes, Nat.add_comm]
theorem rolAcc : Statement (.rolAcc) := rfl
theorem pld : Statement (.pld) := rfl
theorem bitAbs (a : Word) : Statement (.bitAbs a) := rfl
theorem andAbs (a : Word) : Statement (.andAbs a) := rfl
theorem rolAbs (a : Word) : Statement (.rolAbs a) := rfl
theorem andLong (a : Addr) : Statement (.andLong a) := rfl
theorem bmi (r : Byte) : Statement (.bmi r) := rfl
theorem andDirIndY (o : Byte) : Statement (.andDirIndY o) := rfl
theorem andDirInd (o : Byte) : Statement (.andDirInd o) := rfl
theorem andStkRelIndY (o : Byte) : Statement (.andStkRelIndY o) := rfl
theorem bitDirX (o : Byte) : Statement (.bitDirX o) := rfl
theorem andDirX (o : Byte) : Statement (.andDirX o) := rfl
theorem rolDirX (o : Byte) : Statement (.rolDirX o) := rfl
theorem andDirIndLongY (o : Byte) : Statement (.andDirIndLongY o) := rfl
theorem sec : Statement (.sec) := rfl
theorem andAbsY (a : Word) : Statement (.andAbsY a) := rfl
theorem decAcc : Statement (.decAcc) := rfl
theorem tsc : Statement (.tsc) := rfl
theorem bitAbsX (a : Word) : Statement (.bitAbsX a) := rfl
theorem andAbsX (a : Word) : Statement (.andAbsX a) := rfl
theorem rolAbsX (a : Word) : Statement (.rolAbsX a) := rfl
theorem andLongX (a : Addr) : Statement (.andLongX a) := rfl
theorem rti : Statement (.rti) := rfl
theorem eorDirXInd (o : Byte) : Statement (.eorDirXInd o) := rfl
theorem reserved42 (op8 : Byte) : Statement (.reserved42 op8) := rfl
theorem eorStkRel (o : Byte) : Statement (.eorStkRel o) := rfl
theorem mvp (dst : Byte) (src : Byte) : Statement (.mvp dst src) := rfl
theorem eorDir (o : Byte) : Statement (.eorDir o) := rfl
theorem lsrDir (o : Byte) : Statement (.lsrDir o) := rfl
theorem eorDirIndLong (o : Byte) : Statement (.eorDirIndLong o) := rfl
theorem pha : Statement (.pha) := rfl
theorem eorImm (v : Imm) : Statement (.eorImm v) := by simp [Statement, encode, imm_encode_length, Instr.length, Instr.view, Src.bytes, Nat.add_comm]
theorem lsrAcc : Statement (.lsrAcc) := rfl
theorem phk : Statement (.phk) := rfl
theorem jmpAbs (a : Word) : Statement (.jmpAbs a) := rfl
theorem eorAbs (a : Word) : Statement (.eorAbs a) := rfl
theorem lsrAbs (a : Word) : Statement (.lsrAbs a) := rfl
theorem eorLong (a : Addr) : Statement (.eorLong a) := rfl
theorem bvc (r : Byte) : Statement (.bvc r) := rfl
theorem eorDirIndY (o : Byte) : Statement (.eorDirIndY o) := rfl
theorem eorDirInd (o : Byte) : Statement (.eorDirInd o) := rfl
theorem eorStkRelIndY (o : Byte) : Statement (.eorStkRelIndY o) := rfl
theorem mvn (dst : Byte) (src : Byte) : Statement (.mvn dst src) := rfl
theorem eorDirX (o : Byte) : Statement (.eorDirX o) := rfl
theorem lsrDirX (o : Byte) : Statement (.lsrDirX o) := rfl
theorem eorDirIndLongY (o : Byte) : Statement (.eorDirIndLongY o) := rfl
theorem cli : Statement (.cli) := rfl
theorem eorAbsY (a : Word) : Statement (.eorAbsY a) := rfl
theorem phy : Statement (.phy) := rfl
theorem tcd : Statement (.tcd) := rfl
theorem jmpLong (a : Addr) : Statement (.jmpLong a) := rfl
theorem eorAbsX (a : Word) : Statement (.eorAbsX a) := rfl
theorem lsrAbsX (a : Word) : Statement (.lsrAbsX a) := rfl
theorem eorLongX (a : Addr) : Statement (.eorLongX a) := rfl
theorem rts : Statement (.rts) := rfl
theorem adcDirXInd (o : Byte) : Statement (.adcDirXInd o) := rfl
theorem per (r : Word) : Statement (.per r) := rfl
theorem adcStkRel (o : Byte) : Statement (.adcStkRel o) := rfl
theorem stzDir (o : Byte) : Statement (.stzDir o) := rfl
theorem adcDir (o : Byte) : Statement (.adcDir o) := rfl
theorem rorDir (o : Byte) : Statement (.rorDir o) := rfl
theorem adcDirIndLong (o : Byte) : Statement (.adcDirIndLong o) := rfl
theorem pla : Statement (.pla) := rfl
theorem adcImm (v : Imm) : Statement (.adcImm v) := by simp [Statement, encode, imm_encode_length, Instr.length, Instr.view, Src.bytes, Nat.add_comm]
theorem rorAcc : Statement (.rorAcc) := rfl
theorem rtl : Statement (.rtl) := rfl
theorem jmpAbsInd (a : Word) : Statement (.jmpAbsInd a) := rfl
theorem adcAbs (a : Word) : Statement (.adcAbs a) := rfl
theorem rorAbs (a : Word) : Statement (.rorAbs a) := rfl
theorem adcLong (a : Addr) : Statement (.adcLong a) := rfl
theorem bvs (r : Byte) : Statement (.bvs r) := rfl
theorem adcDirIndY (o : Byte) : Statement (.adcDirIndY o) := rfl
theorem adcDirInd (o : Byte) : Statement (.adcDirInd o) := rfl
theorem adcStkRelIndY (o : Byte) : Statement (.adcStkRelIndY o) := rfl
theorem stzDirX (o : Byte) : Statement (.stzDirX o) := rfl
theorem adcDirX (o : Byte) : Statement (.adcDirX o) := rfl
theorem rorDirX (o : Byte) : Statement (.rorDirX o) := rfl
theorem adcDirIndLongY (o : Byte) : Statement (.adcDirIndLongY o) := rfl
theorem sei : Statement (.sei) := rfl
theorem adcAbsY (a : Word) : Statement (.adcAbsY a) := rfl
theorem ply : Statement (.ply) := rfl
theorem tdc : Statement (.tdc) := rfl
theorem jmpAbsXInd (a : Word) : Statement (.jmpAbsXInd a) := rfl
theorem adcAbsX (a : Word) : Statement (.adcAbsX a) := rfl
theorem rorAbsX (a : Word) : Statement (.rorAbsX a) := rfl
theorem adcLongX (a : Addr) : Statement (.adcLongX a) := rfl
theorem bra (r : Byte) : Statement (.bra r) := rfl
theorem staDirXInd (o : Byte) : Statement (.staDirXInd o) := rfl
theorem brl (r : Word) : Statement (.brl r) := rfl
theorem staStkRel (o : Byte) : Statement (.staStkRel o) := rfl
theorem styDir (o : Byte) : Statement (.styDir o) := rfl
theorem staDir (o : Byte) : Statement (.staDir o) := rfl
theorem stxDir (o : Byte) : Statement (.stxDir o) := rfl
theorem staDirIndLong (o : Byte) : Statement (.staDirIndLong o) := rfl
theorem dey : Statement (.dey) := rfl
theorem bitImm (v : Imm) : Statement (.bitImm v) := by simp [Statement, encode, imm_encode_length, Instr.length, Instr.view, Src.bytes, Nat.add_comm]
theorem txa : Statement (.txa) := rfl
theorem phb : Statement (.phb) := rfl
theorem styAbs (a : Word) : Statement (.styAbs a) := rfl
theorem staAbs (a : Word) : Statement (.staAbs a) := rfl
theorem stxAbs (a : Word) : Statement (.stxAbs a) := rfl
theorem staLong (a : Addr) : Statement (.staLong a) := rfl
theorem bcc (r : Byte) : Statement (.bcc r) := rfl
theorem staDirIndY (o : Byte) : Statement (.staDirIndY o) := rfl
theorem staDirInd (o : Byte) : Statement (.staDirInd o) := rfl
theorem staStkRelIndY (o : Byte) : Statement (.staStkRelIndY o) := rfl
theorem styDirX (o : Byte) : Statement (.styDirX o) := rfl
theorem staDirX (o : Byte) : Statement (.staDirX o) := rfl
theorem stxDirY (o : Byte) : Statement (.stxDirY o) := rfl
theorem staDirIndLongY (o : Byte) : Statement (.staDirIndLongY o) := rfl
theorem tya : Statement (.tya) := rfl
theorem staAbsY (a : Word) : Statement (.staAbsY a) := rfl
theorem txs : Statement (.txs) := rfl
theorem txy : Statement (.txy) := rfl
theorem stzAbs (a : Word) : Statement (.stzAbs a) := rfl
theorem staAbsX (a : Word) : Statement (.staAbsX a) := rfl
theorem stzAbsX (a : Word) : Statement (.stzAbsX a) := rfl
theorem staLongX (a : Addr) : Statement (.staLongX a) := rfl
theorem ldyImm (v : Imm) : Statement (.ldyImm v) := by simp [Statement, encode, imm_encode_length, Instr.length, Instr.view, Src.bytes, Nat.add_comm]
theorem ldaDirXInd (o : Byte) : Statement (.ldaDirXInd o) := rfl
theorem ldxImm (v : Imm) : Statement (.ldxImm v) := by simp [Statement, encode, imm_encode_length, Instr.length, Instr.view, Src.bytes, Nat.add_comm]
theorem ldaStkRel (o : Byte) : Statement (.ldaStkRel o) := rfl
theorem ldyDir (o : Byte) : Statement (.ldyDir o) := rfl
theorem ldaDir (o : Byte) : Statement (.ldaDir o) := rfl
theorem ldxDir (o : Byte) : Statement (.ldxDir o) := rfl
theorem ldaDirIndLong (o : Byte) : Statement (.ldaDirIndLong o) := rfl
theorem tay : Statement (.tay) := rfl
theorem ldaImm (v : Imm) : Statement (.ldaImm v) := by simp [Statement, encode, imm_encode_length, Instr.length, Instr.view, Src.bytes, Nat.add_comm]
theorem tax : Statement (.tax) := rfl
theorem plb : Statement (.plb) := rfl
theorem ldyAbs (a : Word) : Statement (.ldyAbs a) := rfl
theorem ldaAbs (a : Word) : Statement (.ldaAbs a) := rfl
theorem ldxAbs (a : Word) : Statement (.ldxAbs a) := rfl
theorem ldaLong (a : Addr) : Statement (.ldaLong a) := rfl
theorem bcs (r : Byte) : Statement (.bcs r) := rfl
theorem ldaDirIndY (o : Byte) : Statement (.ldaDirIndY o) := rfl
theorem ldaDirInd (o : Byte) : Statement (.ldaDirInd o) := rfl
theorem ldaStkRelIndY (o : Byte) : Statement (.ldaStkRelIndY o) := rfl
theorem ldyDirX (o : Byte) : Statement (.ldyDirX o) := rfl
theorem ldaDirX (o : Byte) : Statement (.ldaDirX o) := rfl
theorem ldxDirY (o : Byte) : Statement (.ldxDirY o) := rfl
theorem ldaDirIndLongY (o : Byte) : Statement (.ldaDirIndLongY o) := rfl
theorem clv : Statement (.clv) := rfl
theorem ldaAbsY (a : Word) : Statement (.ldaAbsY a) := rfl
theorem tsx : Statement (.tsx) := rfl
theorem tyx : Statement (.tyx) := rfl
theorem ldyAbsX (a : Word) : Statement (.ldyAbsX a) := rfl
theorem ldaAbsX (a : Word) : Statement (.ldaAbsX a) := rfl
theorem ldxAbsY (a : Word) : Statement (.ldxAbsY a) := rfl
theorem ldaLongX (a : Addr) : Statement (.ldaLongX a) := rfl
theorem cpyImm (v : Imm) : Statement (.cpyImm v) := by simp [Statement, encode, imm_encode_length, Instr.length, Instr.view, Src.bytes, Nat.add_comm]
theorem cmpDirXInd (o : Byte) : Statement (.cmpDirXInd o) := rfl
theorem rep (mask : Byte) : Statement (.rep mask) := rfl
theorem cmpStkRel (o : Byte) : Statement (.cmpStkRel o) := rfl
theorem cpyDir (o : Byte) : Statement (.cpyDir o) := rfl
theorem cmpDir (o : Byte) : Statement (.cmpDir o) := rfl
theorem decDir (o : Byte) : Statement (.decDir o) := rfl
theorem cmpDirIndLong (o : Byte) : Statement (.cmpDirIndLong o) := rfl
theorem iny : Statement (.iny) := rfl
theorem cmpImm (v : Imm) : Statement (.cmpImm v) := by simp [Statement, encode, imm_encode_length, Instr.length, Instr.view, Src.bytes, Nat.add_comm]
theorem dex : Statement (.dex) := rfl
theorem wai : Statement (.wai) := rfl
theorem cpyAbs (a : Word) : Statement (.cpyAbs a) := rfl
theorem cmpAbs (a : Word) : Statement (.cmpAbs a) := rfl
theorem decAbs (a : Word) : Statement (.decAbs a) := rfl
theorem cmpLong (a : Addr) : Statement (.cmpLong a) := rfl
theorem bne (r : Byte) : Statement (.bne r) := rfl
theorem cmpDirIndY (o : Byte) : Statement (.cmpDirIndY o) := rfl
theorem cmpDirInd (o : Byte) : Statement (.cmpDirInd o) := rfl
theorem cmpStkRelIndY (o : Byte) : Statement (.cmpStkRelIndY o) := rfl
theorem pei (o : Byte) : Statement (.pei o) := rfl
theorem cmpDirX (o : Byte) : Statement (.cmpDirX o) := rfl
theorem decDirX (o : Byte) : Statement (.decDirX o) := rfl
theorem cmpDirIndLongY (o : Byte) : Statement (.cmpDirIndLongY o) := rfl
theorem cld : Statement (.cld) := rfl
theorem cmpAbsY (a : Word) : Statement (.cmpAbsY a) := rfl
theorem phx : Statement (.phx) := rfl
theorem stp : Statement (.stp) := rfl
theorem jml (a : Word) : Statement (.jml a) := rfl
theorem cmpAbsX (a : Word) : Statement (.cmpAbsX a) := rfl
theorem decAbsX (a : Word) : Statement (.decAbsX a) := rfl
theorem cmpLongX (a : Addr) : Statement (.cmpLongX a) := rfl
theorem cpxImm (v : Imm) : Statement (.cpxImm v) := by simp [Statement, encode, imm_encode_length, Instr.length, Instr.view, Src.bytes, Nat.add_comm]
theorem sbcDirXInd (o : Byte) : Statement (.sbcDirXInd o) := rfl
theorem sep (mask : Byte) : Statement (.sep mask) := rfl
theorem sbcStkRel (o : Byte) : Statement (.sbcStkRel o) := rfl
theorem cpxDir (o : Byte) : Statement (.cpxDir o) := rfl
theorem sbcDir (o : Byte) : Statement (.sbcDir o) := rfl
theorem incDir (o : Byte) : Statement (.incDir o) := rfl
theorem sbcDirIndLong (o : Byte) : Statement (.sbcDirIndLong o) := rfl
theorem inx : Statement (.inx) := rfl
theorem sbcImm (v : Imm) : Statement (.sbcImm v) := by simp [Statement, encode, imm_encode_length, Instr.length, Instr.view, Src.bytes, Nat.add_comm]
theorem nop : Statement (.nop) := rfl
theorem xba : Statement (.xba) := rfl
theorem cpxAbs (a : Word) : Statement (.cpxAbs a) := rfl
theorem sbcAbs (a : Word) : Statement (.sbcAbs a) := rfl
theorem incAbs (a : Word) : Statement (.incAbs a) := rfl
theorem sbcLong (a : Addr) : Statement (.sbcLong a) := rfl
theorem beq (r : Byte) : Statement (.beq r) := rfl
theorem sbcDirIndY (o : Byte) : Statement (.sbcDirIndY o) := rfl
theorem sbcDirInd (o : Byte) : Statement (.sbcDirInd o) := rfl
theorem sbcStkRelIndY (o : Byte) : Statement (.sbcStkRelIndY o) := rfl
theorem pea (v : Word) : Statement (.pea v) := rfl
theorem sbcDirX (o : Byte) : Statement (.sbcDirX o) := rfl
theorem incDirX (o : Byte) : Statement (.incDirX o) := rfl
theorem sbcDirIndLongY (o : Byte) : Statement (.sbcDirIndLongY o) := rfl
theorem sed : Statement (.sed) := rfl
theorem sbcAbsY (a : Word) : Statement (.sbcAbsY a) := rfl
theorem plx : Statement (.plx) := rfl
theorem xce : Statement (.xce) := rfl
theorem jsrAbsXInd (a : Word) : Statement (.jsrAbsXInd a) := rfl
theorem sbcAbsX (a : Word) : Statement (.sbcAbsX a) := rfl
theorem incAbsX (a : Word) : Statement (.incAbsX a) := rfl
theorem sbcLongX (a : Addr) : Statement (.sbcLongX a) := rfl

end Sys2Proof.Laws.EncodeLength
end

