-- ==== Sys2Proof/Tests/Slice0.lean ====
section
/-! SUPPORT. The model's own tests, each a named theorem: words of the opcode matrix written out (R97), ill-formed terms
that WellFormed refuses, one-step vectors of spec/95_test_vectors.md (the number in a theorem's name is the vector's), and
for every obligation with hypotheses the inputs that meet them, each clause with its own, at boundary values. -/

namespace Sys2Proof.Tests

open Sys2Proof Sys2Proof.Machine Sys2Proof.Claims

/-! ### Helpers -/

/-- The vectors' start state: S = 01FF, PC = 8000, every register 0, P and E as given. -/
def start (e : Bool) (p : Byte) : State :=
  { State.reset with
    e := e, sp := 0x01FF, pc := 0x8000, p := State.reset.p.ofPulled false p
    lastM := p.getLsbD 5, lastX := p.getLsbD 4 }

/-- One instruction, given by its bytes, executed in a state. -/
def ran (bytes : List Byte) (s : State) : State :=
  match decode s.m8 s.x8 bytes with
  | .ok (i, _) => (match exec i s with | .next t => t | .fault _ => s | .refused _ => s)
  | .error _ => s

/-- One step. -/
def stepped (s : State) : State :=
  match step s with
  | .next t => t
  | .fault _ => s
  | .refused _ => s

/-- P as its eight stored bits. -/
def bits (s : State) : Byte := s.p.toByte false true

/-- The instruction a list of bytes holds, when they hold exactly one. -/
def read (m8 x8 : Bool) (bytes : List Byte) : Option Instr :=
  match decode m8 x8 bytes with
  | .ok (i, []) => some i
  | _ => none

/-! ### WellFormed refuses immediates of the other width -/

theorem test_wf_word_immediate_needs_16_bit_accumulator : (Instr.ldaImm (.word 0x1234)).wf true false = false := by decide
theorem test_wf_byte_immediate_needs_8_bit_accumulator : (Instr.bitImm (.byte 0x12)).wf false true = false := by decide
theorem test_wf_word_immediate_needs_16_bit_index : (Instr.ldxImm (.word 0x1234)).wf false true = false := by decide
theorem test_wf_byte_immediate_needs_8_bit_index : (Instr.cpyImm (.byte 0x12)).wf true false = false := by decide
theorem test_wf_accepts : (Instr.cpxImm (.word 0x1234)).wf true false = true ∧ (Instr.adcImm (.byte 1)).wf true false = true := by
  decide

/-! ### Decoding: the sixteen rows of the matrix of R97, with operand bytes 12, 34, 56 -/

theorem test_decode_row_0 :
    [[0x00, 0x12], [0x01, 0x12], [0x02, 0x12], [0x03, 0x12], [0x04, 0x12], [0x05, 0x12], [0x06, 0x12],
     [0x07, 0x12], [0x08], [0x09, 0x12], [0x0A], [0x0B], [0x0C, 0x12, 0x34], [0x0D, 0x12, 0x34],
     [0x0E, 0x12, 0x34], [0x0F, 0x12, 0x34, 0x56]].map (read true true) =
    [.brk 0x12, .oraDirXInd 0x12, .cop 0x12, .oraStkRel 0x12, .tsbDir 0x12, .oraDir 0x12, .aslDir 0x12,
     .oraDirIndLong 0x12, .php, .oraImm (.byte 0x12), .aslAcc, .phd, .tsbAbs 0x3412, .oraAbs 0x3412,
     .aslAbs 0x3412, .oraLong 0x563412].map some := by decide

theorem test_decode_row_1 :
    [[0x10, 0x12], [0x11, 0x12], [0x12, 0x12], [0x13, 0x12], [0x14, 0x12], [0x15, 0x12], [0x16, 0x12],
     [0x17, 0x12], [0x18], [0x19, 0x12, 0x34], [0x1A], [0x1B], [0x1C, 0x12, 0x34], [0x1D, 0x12, 0x34],
     [0x1E, 0x12, 0x34], [0x1F, 0x12, 0x34, 0x56]].map (read true true) =
    [.bpl 0x12, .oraDirIndY 0x12, .oraDirInd 0x12, .oraStkRelIndY 0x12, .trbDir 0x12, .oraDirX 0x12,
     .aslDirX 0x12, .oraDirIndLongY 0x12, .clc, .oraAbsY 0x3412, .incAcc, .tcs, .trbAbs 0x3412,
     .oraAbsX 0x3412, .aslAbsX 0x3412, .oraLongX 0x563412].map some := by decide

theorem test_decode_row_2 :
    [[0x20, 0x12, 0x34], [0x21, 0x12], [0x22, 0x12, 0x34, 0x56], [0x23, 0x12], [0x24, 0x12], [0x25, 0x12],
     [0x26, 0x12], [0x27, 0x12], [0x28], [0x29, 0x12], [0x2A], [0x2B], [0x2C, 0x12, 0x34], [0x2D, 0x12, 0x34],
     [0x2E, 0x12, 0x34], [0x2F, 0x12, 0x34, 0x56]].map (read true true) =
    [.jsrAbs 0x3412, .andDirXInd 0x12, .jsl 0x563412, .andStkRel 0x12, .bitDir 0x12, .andDir 0x12,
     .rolDir 0x12, .andDirIndLong 0x12, .plp, .andImm (.byte 0x12), .rolAcc, .pld, .bitAbs 0x3412,
     .andAbs 0x3412, .rolAbs 0x3412, .andLong 0x563412].map some := by decide

theorem test_decode_row_3 :
    [[0x30, 0x12], [0x31, 0x12], [0x32, 0x12], [0x33, 0x12], [0x34, 0x12], [0x35, 0x12], [0x36, 0x12],
     [0x37, 0x12], [0x38], [0x39, 0x12, 0x34], [0x3A], [0x3B], [0x3C, 0x12, 0x34], [0x3D, 0x12, 0x34],
     [0x3E, 0x12, 0x34], [0x3F, 0x12, 0x34, 0x56]].map (read true true) =
    [.bmi 0x12, .andDirIndY 0x12, .andDirInd 0x12, .andStkRelIndY 0x12, .bitDirX 0x12, .andDirX 0x12,
     .rolDirX 0x12, .andDirIndLongY 0x12, .sec, .andAbsY 0x3412, .decAcc, .tsc, .bitAbsX 0x3412,
     .andAbsX 0x3412, .rolAbsX 0x3412, .andLongX 0x563412].map some := by decide

theorem test_decode_row_4 :
    [[0x40], [0x41, 0x12], [0x42, 0x12], [0x43, 0x12], [0x44, 0x12, 0x34], [0x45, 0x12], [0x46, 0x12],
     [0x47, 0x12], [0x48], [0x49, 0x12], [0x4A], [0x4B], [0x4C, 0x12, 0x34], [0x4D, 0x12, 0x34],
     [0x4E, 0x12, 0x34], [0x4F, 0x12, 0x34, 0x56]].map (read true true) =
    [.rti, .eorDirXInd 0x12, .reserved42 0x12, .eorStkRel 0x12, .mvp 0x12 0x34, .eorDir 0x12, .lsrDir 0x12,
     .eorDirIndLong 0x12, .pha, .eorImm (.byte 0x12), .lsrAcc, .phk, .jmpAbs 0x3412, .eorAbs 0x3412,
     .lsrAbs 0x3412, .eorLong 0x563412].map some := by decide

theorem test_decode_row_5 :
    [[0x50, 0x12], [0x51, 0x12], [0x52, 0x12], [0x53, 0x12], [0x54, 0x12, 0x34], [0x55, 0x12], [0x56, 0x12],
     [0x57, 0x12], [0x58], [0x59, 0x12, 0x34], [0x5A], [0x5B], [0x5C, 0x12, 0x34, 0x56], [0x5D, 0x12, 0x34],
     [0x5E, 0x12, 0x34], [0x5F, 0x12, 0x34, 0x56]].map (read true true) =
    [.bvc 0x12, .eorDirIndY 0x12, .eorDirInd 0x12, .eorStkRelIndY 0x12, .mvn 0x12 0x34, .eorDirX 0x12,
     .lsrDirX 0x12, .eorDirIndLongY 0x12, .cli, .eorAbsY 0x3412, .phy, .tcd, .jmpLong 0x563412,
     .eorAbsX 0x3412, .lsrAbsX 0x3412, .eorLongX 0x563412].map some := by decide

theorem test_decode_row_6 :
    [[0x60], [0x61, 0x12], [0x62, 0x12, 0x34], [0x63, 0x12], [0x64, 0x12], [0x65, 0x12], [0x66, 0x12],
     [0x67, 0x12], [0x68], [0x69, 0x12], [0x6A], [0x6B], [0x6C, 0x12, 0x34], [0x6D, 0x12, 0x34],
     [0x6E, 0x12, 0x34], [0x6F, 0x12, 0x34, 0x56]].map (read true true) =
    [.rts, .adcDirXInd 0x12, .per 0x3412, .adcStkRel 0x12, .stzDir 0x12, .adcDir 0x12, .rorDir 0x12,
     .adcDirIndLong 0x12, .pla, .adcImm (.byte 0x12), .rorAcc, .rtl, .jmpAbsInd 0x3412, .adcAbs 0x3412,
     .rorAbs 0x3412, .adcLong 0x563412].map some := by decide

theorem test_decode_row_7 :
    [[0x70, 0x12], [0x71, 0x12], [0x72, 0x12], [0x73, 0x12], [0x74, 0x12], [0x75, 0x12], [0x76, 0x12],
     [0x77, 0x12], [0x78], [0x79, 0x12, 0x34], [0x7A], [0x7B], [0x7C, 0x12, 0x34], [0x7D, 0x12, 0x34],
     [0x7E, 0x12, 0x34], [0x7F, 0x12, 0x34, 0x56]].map (read true true) =
    [.bvs 0x12, .adcDirIndY 0x12, .adcDirInd 0x12, .adcStkRelIndY 0x12, .stzDirX 0x12, .adcDirX 0x12,
     .rorDirX 0x12, .adcDirIndLongY 0x12, .sei, .adcAbsY 0x3412, .ply, .tdc, .jmpAbsXInd 0x3412,
     .adcAbsX 0x3412, .rorAbsX 0x3412, .adcLongX 0x563412].map some := by decide

theorem test_decode_row_8 :
    [[0x80, 0x12], [0x81, 0x12], [0x82, 0x12, 0x34], [0x83, 0x12], [0x84, 0x12], [0x85, 0x12], [0x86, 0x12],
     [0x87, 0x12], [0x88], [0x89, 0x12], [0x8A], [0x8B], [0x8C, 0x12, 0x34], [0x8D, 0x12, 0x34],
     [0x8E, 0x12, 0x34], [0x8F, 0x12, 0x34, 0x56]].map (read true true) =
    [.bra 0x12, .staDirXInd 0x12, .brl 0x3412, .staStkRel 0x12, .styDir 0x12, .staDir 0x12, .stxDir 0x12,
     .staDirIndLong 0x12, .dey, .bitImm (.byte 0x12), .txa, .phb, .styAbs 0x3412, .staAbs 0x3412,
     .stxAbs 0x3412, .staLong 0x563412].map some := by decide

theorem test_decode_row_9 :
    [[0x90, 0x12], [0x91, 0x12], [0x92, 0x12], [0x93, 0x12], [0x94, 0x12], [0x95, 0x12], [0x96, 0x12],
     [0x97, 0x12], [0x98], [0x99, 0x12, 0x34], [0x9A], [0x9B], [0x9C, 0x12, 0x34], [0x9D, 0x12, 0x34],
     [0x9E, 0x12, 0x34], [0x9F, 0x12, 0x34, 0x56]].map (read true true) =
    [.bcc 0x12, .staDirIndY 0x12, .staDirInd 0x12, .staStkRelIndY 0x12, .styDirX 0x12, .staDirX 0x12,
     .stxDirY 0x12, .staDirIndLongY 0x12, .tya, .staAbsY 0x3412, .txs, .txy, .stzAbs 0x3412, .staAbsX 0x3412,
     .stzAbsX 0x3412, .staLongX 0x563412].map some := by decide

theorem test_decode_row_A :
    [[0xA0, 0x12], [0xA1, 0x12], [0xA2, 0x12], [0xA3, 0x12], [0xA4, 0x12], [0xA5, 0x12], [0xA6, 0x12],
     [0xA7, 0x12], [0xA8], [0xA9, 0x12], [0xAA], [0xAB], [0xAC, 0x12, 0x34], [0xAD, 0x12, 0x34],
     [0xAE, 0x12, 0x34], [0xAF, 0x12, 0x34, 0x56]].map (read true true) =
    [.ldyImm (.byte 0x12), .ldaDirXInd 0x12, .ldxImm (.byte 0x12), .ldaStkRel 0x12, .ldyDir 0x12, .ldaDir 0x12,
     .ldxDir 0x12, .ldaDirIndLong 0x12, .tay, .ldaImm (.byte 0x12), .tax, .plb, .ldyAbs 0x3412, .ldaAbs 0x3412,
     .ldxAbs 0x3412, .ldaLong 0x563412].map some := by decide

theorem test_decode_row_B :
    [[0xB0, 0x12], [0xB1, 0x12], [0xB2, 0x12], [0xB3, 0x12], [0xB4, 0x12], [0xB5, 0x12], [0xB6, 0x12],
     [0xB7, 0x12], [0xB8], [0xB9, 0x12, 0x34], [0xBA], [0xBB], [0xBC, 0x12, 0x34], [0xBD, 0x12, 0x34],
     [0xBE, 0x12, 0x34], [0xBF, 0x12, 0x34, 0x56]].map (read true true) =
    [.bcs 0x12, .ldaDirIndY 0x12, .ldaDirInd 0x12, .ldaStkRelIndY 0x12, .ldyDirX 0x12, .ldaDirX 0x12,
     .ldxDirY 0x12, .ldaDirIndLongY 0x12, .clv, .ldaAbsY 0x3412, .tsx, .tyx, .ldyAbsX 0x3412, .ldaAbsX 0x3412,
     .ldxAbsY 0x3412, .ldaLongX 0x563412].map some := by decide

theorem test_decode_row_C :
    [[0xC0, 0x12], [0xC1, 0x12], [0xC2, 0x12], [0xC3, 0x12], [0xC4, 0x12], [0xC5, 0x12], [0xC6, 0x12],
     [0xC7, 0x12], [0xC8], [0xC9, 0x12], [0xCA], [0xCB], [0xCC, 0x12, 0x34], [0xCD, 0x12, 0x34],
     [0xCE, 0x12, 0x34], [0xCF, 0x12, 0x34, 0x56]].map (read true true) =
    [.cpyImm (.byte 0x12), .cmpDirXInd 0x12, .rep 0x12, .cmpStkRel 0x12, .cpyDir 0x12, .cmpDir 0x12,
     .decDir 0x12, .cmpDirIndLong 0x12, .iny, .cmpImm (.byte 0x12), .dex, .wai, .cpyAbs 0x3412, .cmpAbs 0x3412,
     .decAbs 0x3412, .cmpLong 0x563412].map some := by decide

theorem test_decode_row_D :
    [[0xD0, 0x12], [0xD1, 0x12], [0xD2, 0x12], [0xD3, 0x12], [0xD4, 0x12], [0xD5, 0x12], [0xD6, 0x12],
     [0xD7, 0x12], [0xD8], [0xD9, 0x12, 0x34], [0xDA], [0xDB], [0xDC, 0x12, 0x34], [0xDD, 0x12, 0x34],
     [0xDE, 0x12, 0x34], [0xDF, 0x12, 0x34, 0x56]].map (read true true) =
    [.bne 0x12, .cmpDirIndY 0x12, .cmpDirInd 0x12, .cmpStkRelIndY 0x12, .pei 0x12, .cmpDirX 0x12,
     .decDirX 0x12, .cmpDirIndLongY 0x12, .cld, .cmpAbsY 0x3412, .phx, .stp, .jml 0x3412, .cmpAbsX 0x3412,
     .decAbsX 0x3412, .cmpLongX 0x563412].map some := by decide

theorem test_decode_row_E :
    [[0xE0, 0x12], [0xE1, 0x12], [0xE2, 0x12], [0xE3, 0x12], [0xE4, 0x12], [0xE5, 0x12], [0xE6, 0x12],
     [0xE7, 0x12], [0xE8], [0xE9, 0x12], [0xEA], [0xEB], [0xEC, 0x12, 0x34], [0xED, 0x12, 0x34],
     [0xEE, 0x12, 0x34], [0xEF, 0x12, 0x34, 0x56]].map (read true true) =
    [.cpxImm (.byte 0x12), .sbcDirXInd 0x12, .sep 0x12, .sbcStkRel 0x12, .cpxDir 0x12, .sbcDir 0x12,
     .incDir 0x12, .sbcDirIndLong 0x12, .inx, .sbcImm (.byte 0x12), .nop, .xba, .cpxAbs 0x3412, .sbcAbs 0x3412,
     .incAbs 0x3412, .sbcLong 0x563412].map some := by decide

theorem test_decode_row_F :
    [[0xF0, 0x12], [0xF1, 0x12], [0xF2, 0x12], [0xF3, 0x12], [0xF4, 0x12, 0x34], [0xF5, 0x12], [0xF6, 0x12],
     [0xF7, 0x12], [0xF8], [0xF9, 0x12, 0x34], [0xFA], [0xFB], [0xFC, 0x12, 0x34], [0xFD, 0x12, 0x34],
     [0xFE, 0x12, 0x34], [0xFF, 0x12, 0x34, 0x56]].map (read true true) =
    [.beq 0x12, .sbcDirIndY 0x12, .sbcDirInd 0x12, .sbcStkRelIndY 0x12, .pea 0x3412, .sbcDirX 0x12,
     .incDirX 0x12, .sbcDirIndLongY 0x12, .sed, .sbcAbsY 0x3412, .plx, .xce, .jsrAbsXInd 0x3412,
     .sbcAbsX 0x3412, .incAbsX 0x3412, .sbcLongX 0x563412].map some := by decide

theorem test_decode_word_immediates :
    [[0x09, 0x12, 0x34], [0x29, 0x12, 0x34], [0x49, 0x12, 0x34], [0x69, 0x12, 0x34], [0x89, 0x12, 0x34],
     [0xA0, 0x12, 0x34], [0xA2, 0x12, 0x34], [0xA9, 0x12, 0x34], [0xC0, 0x12, 0x34], [0xC9, 0x12, 0x34],
     [0xE0, 0x12, 0x34], [0xE9, 0x12, 0x34]].map (read false false) =
    [.oraImm (.word 0x3412), .andImm (.word 0x3412), .eorImm (.word 0x3412), .adcImm (.word 0x3412),
     .bitImm (.word 0x3412), .ldyImm (.word 0x3412), .ldxImm (.word 0x3412), .ldaImm (.word 0x3412),
     .cpyImm (.word 0x3412), .cmpImm (.word 0x3412), .cpxImm (.word 0x3412), .sbcImm (.word 0x3412)].map some := by decide

theorem test_decode_truncated : decode true true [0xAD, 0x12] = .error .truncated := rfl

theorem test_table_word : decodeTableWord 16 0x12A9 = some (.ldaImm (.byte 0x12)) := by decide

theorem test_fetch_word_runs : (stepped (State.reset.withFetchWord 16 0x80A9)).c = 0x0080 := by decide

/-! ### One step of each instruction, from the vectors -/

theorem test_V1_lda :
    let t := ran [0xA9, 0x80] { start true 0x30 with c := 0x1200 }
    t.c = 0x1280 ∧ bits t = 0xB0 := by decide

theorem test_V2_lda :
    let t := ran [0xA9, 0x00, 0x00] { start false 0x10 with c := 0xFFFF }
    t.c = 0x0000 ∧ bits t = 0x12 := by decide

theorem test_V10_ldx :
    let t := ran [0xA2, 0x80] (start true 0x30)
    t.x = 0x0080 ∧ bits t = 0xB0 := by decide

theorem test_V11_ldy :
    let t := ran [0xA0, 0x00, 0x80] (start false 0x20)
    t.y = 0x8000 ∧ bits t = 0xA0 := by decide

theorem test_V12_sta :
    let t := ran [0x8D, 0x00, 0x20] { start false 0x00 with c := 0x1234, dbr := 0x7E }
    t.readByte 0x7E2000 = 0x34 ∧ t.readByte 0x7E2001 = 0x12 := by decide

theorem test_V13_sta :
    let t := ran [0x8D, 0x00, 0x20] { start false 0x20 with c := 0x1234, dbr := 0x7E }
    t.readByte 0x7E2000 = 0x34 ∧ t.pc = 0x8003 := by decide

theorem test_V14_stx :
    let t := ran [0x96, 0x10] { start false 0x00 with x := 0xBEEF, y := 0x0005 }
    t.readByte 0x000015 = 0xEF ∧ t.readByte 0x000016 = 0xBE := by decide

theorem test_V15_stz :
    let t := ran [0x9E, 0x00, 0x30] { start false 0x00 with x := 0x0002, mem := [(0x003002, 0xFF), (0x003003, 0xFF)] }
    t.readByte 0x003002 = 0x00 ∧ t.readByte 0x003003 = 0x00 := by decide

theorem test_V24_sty :
    let t := ran [0x84, 0x10] { start false 0x00 with y := 0xBEEF }
    t.readByte 0x000010 = 0xEF ∧ t.readByte 0x000011 = 0xBE := by decide

theorem test_V30_adc :
    let t := ran [0x69, 0x50] { start true 0x30 with c := 0x0050 }
    t.c = 0x00A0 ∧ bits t = 0xF0 := by decide

theorem test_V31_adc :
    let t := ran [0x69, 0x01] { start true 0x30 with c := 0x00FF }
    t.c = 0x0000 ∧ bits t = 0x33 := by decide

theorem test_V35_sbc :
    let t := ran [0xE9, 0xF0] { start true 0x31 with c := 0x0050 }
    t.c = 0x0060 ∧ bits t = 0x30 := by decide

theorem test_V36_sbc :
    let t := ran [0xE9, 0xB0] { start true 0x31 with c := 0x0050 }
    t.c = 0x00A0 ∧ bits t = 0xF0 := by decide

theorem test_V43_and :
    let t := ran [0x29, 0x3C] { start true 0x30 with c := 0x00F0 }
    t.c = 0x0030 ∧ t.pc = 0x8002 := by decide

theorem test_V44_ora :
    let t := ran [0x09, 0x01, 0x80] { start false 0x00 with c := 0x0F00 }
    t.c = 0x8F01 ∧ bits t = 0x80 := by decide

theorem test_V45_eor :
    let t := ran [0x49, 0xFF] { start true 0x30 with c := 0x00FF }
    t.c = 0x0000 ∧ bits t = 0x32 := by decide

theorem test_V46_cmp :
    let t := ran [0xC9, 0x41] { start true 0x70 with c := 0x0040 }
    bits t = 0xF0 ∧ t.pc = 0x8002 := by decide

theorem test_V47_cmp :
    let t := ran [0xC9, 0x01] { start true 0x30 with c := 0x0080 }
    bits t = 0x31 ∧ t.pc = 0x8002 := by decide

theorem test_V49_bit :
    let t := ran [0x24, 0x10] { start true 0x30 with c := 0x0001, mem := [(0x000010, 0xC0)] }
    bits t = 0xF2 ∧ t.pc = 0x8002 := by decide

theorem test_V50_bit :
    let t := ran [0x89, 0xC0] { start true 0x30 with c := 0x0001 }
    bits t = 0x32 ∧ t.pc = 0x8002 := by decide

theorem test_V52_cpx :
    let t := ran [0xE0, 0x00, 0x10] { start false 0x20 with x := 0x1000 }
    bits t = 0x23 ∧ t.pc = 0x8003 := by decide

theorem test_V53_cpy :
    let t := ran [0xC0, 0x01] { start true 0x30 with y := 0x0000 }
    bits t = 0xB0 ∧ t.pc = 0x8002 := by decide

theorem test_V60_asl :
    let t := ran [0x0A] { start true 0x30 with c := 0x1281 }
    t.c = 0x1202 ∧ bits t = 0x31 := by decide

theorem test_V62_lsr :
    let t := ran [0x4A] { start true 0xB0 with c := 0x0001 }
    t.c = 0x0000 ∧ bits t = 0x33 := by decide

theorem test_V63_rol :
    let t := ran [0x2A] { start true 0x31 with c := 0x0080 }
    t.c = 0x0001 ∧ t.pc = 0x8001 := by decide

theorem test_V64_ror :
    let t := ran [0x6A] { start false 0x01 with c := 0x0001 }
    t.c = 0x8000 ∧ bits t = 0x81 := by decide

theorem test_V66_inc :
    let t := ran [0xE6, 0x10] { start true 0x31 with mem := [(0x000010, 0xFF)] }
    t.readByte 0x000010 = 0x00 ∧ bits t = 0x33 := by decide

theorem test_V68_dec :
    let t := ran [0x3A] { start false 0x00 with c := 0x0000 }
    t.c = 0xFFFF ∧ bits t = 0x80 := by decide

theorem test_V70_trb :
    let t := ran [0x14, 0x10] { start true 0x30 with c := 0x000F, mem := [(0x000010, 0x3C)] }
    t.readByte 0x000010 = 0x30 ∧ t.pc = 0x8002 := by decide

theorem test_V71_trb :
    let t := ran [0x1C, 0x00, 0x20] { start false 0x00 with c := 0x00FF, mem := [(0x002001, 0xFF)] }
    t.readByte 0x002001 = 0xFF ∧ t.readByte 0x002000 = 0x00 ∧ bits t = 0x02 := by decide

theorem test_V72_tsb :
    let t := ran [0x04, 0x10] { start true 0x30 with c := 0x0080, mem := [(0x000010, 0x01)] }
    t.readByte 0x000010 = 0x81 ∧ bits t = 0x32 := by decide

theorem test_V80_bcc :
    let t := ran [0x90, 0x10] (start true 0x30)
    bits t = 0x30 ∧ t.pc = 0x8012 := by decide

theorem test_V82_bcs :
    let t := ran [0xB0, 0xFE] (start true 0x31)
    bits t = 0x31 ∧ t.pc = 0x8000 := by decide

theorem test_V83_bmi :
    let t := ran [0x30, 0x80] (start true 0xB0)
    bits t = 0xB0 ∧ t.pc = 0x7F82 := by decide

theorem test_V84_bpl :
    let t := ran [0x10, 0x02] { start false 0x30 with pbr := 0x02, pc := 0xFFFE }
    bits t = 0x30 ∧ t.pc = 0x0002 := by decide

theorem test_V85_bra :
    let t := ran [0x80, 0x7F] (start true 0x30)
    bits t = 0x30 ∧ t.pc = 0x8081 := by decide

theorem test_V86_bne :
    let t := ran [0xD0, 0xF9] { start true 0x30 with pc := 0x8005 }
    bits t = 0x30 ∧ t.pc = 0x8000 := by decide

theorem test_V87_beq :
    let t := ran [0xF0, 0x05] (start true 0x32)
    bits t = 0x32 ∧ t.pc = 0x8007 := by decide

theorem test_V88_bvc :
    let t := ran [0x50, 0x00] (start true 0x30)
    bits t = 0x30 ∧ t.pc = 0x8002 := by decide

theorem test_V89_bvs :
    let t := ran [0x70, 0x04] { start true 0x70 with pc := 0x9000 }
    bits t = 0x70 ∧ t.pc = 0x9006 := by decide

theorem test_V90_clc :
    let t := ran [0x18] (start true 0x35)
    bits t = 0x34 ∧ t.pc = 0x8001 := by decide

theorem test_V91_sed :
    let t := ran [0xF8] (start true 0x34)
    bits t = 0x3C ∧ t.pc = 0x8001 := by decide

theorem test_V92_cli :
    let t := ran [0x58] (start true 0x34)
    bits t = 0x30 ∧ t.pc = 0x8001 := by decide

theorem test_V93_clv :
    let t := ran [0xB8] (start true 0x74)
    bits t = 0x34 ∧ t.pc = 0x8001 := by decide

theorem test_V94_dex :
    let t := ran [0xCA] { start true 0x30 with x := 0x0000 }
    t.x = 0x00FF ∧ bits t = 0xB0 := by decide

theorem test_V96_inx :
    let t := ran [0xE8] { start false 0x30 with x := 0x00FF }
    t.x = 0x0000 ∧ bits t = 0x32 := by decide

theorem test_V97_inx :
    let t := ran [0xE8] { start false 0x20 with x := 0x00FF }
    t.x = 0x0100 ∧ t.pc = 0x8001 := by decide

theorem test_V98_iny :
    let t := ran [0xC8] { start false 0x00 with y := 0x7FFF }
    t.y = 0x8000 ∧ bits t = 0x80 := by decide

theorem test_V99_dey :
    let t := ran [0x88] { start true 0x30 with y := 0x0001 }
    t.y = 0x0000 ∧ bits t = 0x32 := by decide

theorem test_V100_nop :
    let t := ran [0xEA] (start true 0x30)
    bits t = 0x30 ∧ t.pc = 0x8001 := by decide

theorem test_V110_pha :
    let t := ran [0x48] { start false 0x00 with c := 0x1234 }
    t.sp = 0x01FD ∧ t.readByte 0x0001FF = 0x12 ∧ t.readByte 0x0001FE = 0x34 := by decide

theorem test_V112_pla :
    let t := ran [0x68] { start true 0x30 with sp := 0x01FF, mem := [(0x000100, 0x80), (0x000200, 0x11)] }
    t.c = 0x0080 ∧ t.sp = 0x0100 ∧ bits t = 0xB0 := by decide

theorem test_V113_phd :
    let t := ran [0x0B] { start true 0x30 with sp := 0x0100, d := 0x1234 }
    t.sp = 0x01FE ∧ t.readByte 0x000100 = 0x12 ∧ t.readByte 0x0000FF = 0x34 := by decide

theorem test_V114_pld :
    let t := ran [0x2B] { start true 0x30 with sp := 0x01FF, mem := [(0x000201, 0x20)] }
    t.sp = 0x0101 ∧ t.d = 0x2000 := by decide

theorem test_V115_pea :
    let t := ran [0xF4, 0x34, 0x12] (start false 0x30)
    t.sp = 0x01FD ∧ t.readByte 0x0001FF = 0x12 ∧ t.readByte 0x0001FE = 0x34 := by decide

theorem test_V116_pei :
    let t := ran [0xD4, 0xFF] { start true 0x30 with mem := [(0x000000, 0x99), (0x0000FF, 0x78), (0x000100, 0x56)] }
    t.sp = 0x01FD ∧ t.readByte 0x0001FF = 0x56 ∧ t.readByte 0x0001FE = 0x78 := by decide

theorem test_V117_per :
    let t := ran [0x62, 0xFD, 0xFF] (start false 0x00)
    t.sp = 0x01FD ∧ t.readByte 0x0001FF = 0x80 ∧ t.readByte 0x0001FE = 0x00 := by decide

theorem test_V118_php :
    let t := ran [0x08] (start true 0xB1)
    t.sp = 0x01FE ∧ t.readByte 0x0001FF = 0xB1 := by decide

theorem test_V119_php :
    let t := ran [0x08] (start false 0x81)
    t.sp = 0x01FE ∧ t.readByte 0x0001FF = 0x81 := by decide

theorem test_V120_plp :
    let t := ran [0x28] { start false 0x00 with x := 0x1234, y := 0x5678, sp := 0x01FE, mem := [(0x0001FF, 0xFF)] }
    t.x = 0x0034 ∧ t.y = 0x0078 ∧ t.sp = 0x01FF ∧ bits t = 0xFF := by decide

theorem test_V121_plp :
    let t := ran [0x28] { start true 0x30 with sp := 0x01FE, mem := [] }
    t.sp = 0x01FF ∧ t.pc = 0x8001 := by decide

theorem test_V122_phx :
    let t := ran [0xDA] { start false 0x20 with x := 0xBEEF }
    t.sp = 0x01FD ∧ t.readByte 0x0001FF = 0xBE ∧ t.readByte 0x0001FE = 0xEF := by decide

theorem test_V123_plx :
    let t := ran [0xFA] { start true 0x30 with sp := 0x01FE, mem := [] }
    t.sp = 0x01FF ∧ bits t = 0x32 := by decide

theorem test_V124_phb :
    let t := ran [0x8B] { start true 0x30 with dbr := 0x7E }
    t.sp = 0x01FE ∧ t.readByte 0x0001FF = 0x7E := by decide

theorem test_V125_plb :
    let t := ran [0xAB] { start true 0x30 with sp := 0x01FE, mem := [(0x0001FF, 0x80)] }
    t.sp = 0x01FF ∧ t.dbr = 0x80 ∧ bits t = 0xB0 := by decide

theorem test_V126_phk :
    let t := ran [0x4B] { start true 0x30 with sp := 0x01F0, pbr := 0x02 }
    t.sp = 0x01EF ∧ t.readByte 0x0001F0 = 0x02 := by decide

theorem test_V127_ply :
    let t := ran [0x7A] { start false 0x00 with sp := 0x01FD, mem := [(0x0001FF, 0x80)] }
    t.y = 0x8000 ∧ t.sp = 0x01FF ∧ bits t = 0x80 := by decide

theorem test_V140_tax :
    let t := ran [0xAA] { start false 0x20 with c := 0x12FF }
    t.x = 0x12FF ∧ t.pc = 0x8001 := by decide

theorem test_V141_tay :
    let t := ran [0xA8] { start true 0x30 with c := 0x1280 }
    t.y = 0x0080 ∧ bits t = 0xB0 := by decide

theorem test_V142_txa :
    let t := ran [0x8A] { start false 0x10 with x := 0x0080 }
    t.c = 0x0080 ∧ t.pc = 0x8001 := by decide

theorem test_V143_tya :
    let t := ran [0x98] { start false 0x20 with c := 0x55AA, y := 0x1200 }
    t.c = 0x5500 ∧ bits t = 0x22 := by decide

theorem test_V144_tcd :
    let t := ran [0x5B] { start true 0x30 with c := 0x2000 }
    t.d = 0x2000 ∧ t.pc = 0x8001 := by decide

theorem test_V145_tdc :
    let t := ran [0x7B] { start true 0x30 with c := 0x1234, d := 0x0000 }
    t.c = 0x0000 ∧ bits t = 0x32 := by decide

theorem test_V146_tcs :
    let t := ran [0x1B] { start true 0x30 with c := 0x1FFF, sp := 0x01F0 }
    t.sp = 0x01FF ∧ t.pc = 0x8001 := by decide

theorem test_V147_tcs :
    let t := ran [0x1B] { start false 0x30 with c := 0x1FFF }
    t.sp = 0x1FFF ∧ t.pc = 0x8001 := by decide

theorem test_V148_tsc :
    let t := ran [0x3B] { start true 0x30 with c := 0xFFFF, sp := 0x01FF }
    t.c = 0x01FF ∧ t.pc = 0x8001 := by decide

theorem test_V149_tsx :
    let t := ran [0xBA] { start true 0x30 with sp := 0x01FD }
    t.x = 0x00FD ∧ bits t = 0xB0 := by decide

theorem test_V150_txs :
    let t := ran [0x9A] { start false 0x30 with x := 0x00FF }
    t.sp = 0x00FF ∧ t.pc = 0x8001 := by decide

theorem test_V151_txs :
    let t := ran [0x9A] { start true 0x30 with x := 0x0080, sp := 0x01FF }
    t.sp = 0x0180 ∧ t.pc = 0x8001 := by decide

theorem test_V152_txy :
    let t := ran [0x9B] { start false 0x00 with x := 0x8001 }
    t.y = 0x8001 ∧ bits t = 0x80 := by decide

theorem test_V153_tyx :
    let t := ran [0xBB] { start true 0x30 with x := 0x0055, y := 0x0000 }
    t.x = 0x0000 ∧ bits t = 0x32 := by decide

theorem test_V154_xce :
    let t := ran [0xFB] { start true 0x30 with sp := 0x01F0 }
    t.e = false ∧ bits t = 0x31 := by decide

theorem test_V155_xce :
    let t := ran [0xFB] { start false 0x01 with c := 0x1234, x := 0x5678, y := 0x9ABC, sp := 0x1FF0 }
    t.e = true ∧ t.x = 0x0078 ∧ t.y = 0x00BC ∧ t.sp = 0x01F0 ∧ bits t = 0x30 := by decide

theorem test_V170_brl :
    let t := ran [0x82, 0x20, 0x00] { start false 0x00 with pc := 0xFFF0 }
    bits t = 0x00 ∧ t.pc = 0x0013 := by decide

theorem test_V171_jmp :
    let t := ran [0x4C, 0x00, 0x90] { start false 0x00 with pbr := 0x02 }
    bits t = 0x00 ∧ t.pc = 0x9000 := by decide

theorem test_V172_jmp :
    let t := ran [0x5C, 0x00, 0x80, 0x7E] (start false 0x00)
    t.pbr = 0x7E ∧ t.pc = 0x8000 := by decide

theorem test_V175_jml :
    let t := ran [0xDC, 0x00, 0x02] { start false 0x00 with mem := [(0x000201, 0x80), (0x000202, 0x7F)] }
    t.pbr = 0x7F ∧ t.pc = 0x8000 := by decide

theorem test_V176_jsr :
    let t := ran [0x20, 0x34, 0x12] (start false 0x30)
    t.sp = 0x01FD ∧ t.readByte 0x0001FF = 0x80 ∧ t.readByte 0x0001FE = 0x02 ∧ t.pc = 0x1234 := by decide

theorem test_V177_jsr :
    let t := ran [0x20, 0x34, 0x12] { start true 0x30 with sp := 0x0100 }
    t.sp = 0x01FE ∧ t.readByte 0x000100 = 0x80 ∧ t.readByte 0x0001FF = 0x02 ∧ t.pc = 0x1234 := by decide

theorem test_V179_jsl :
    let t := ran [0x22, 0x00, 0x90, 0x7E] { start false 0x00 with pbr := 0x02 }
    t.sp = 0x01FC ∧ t.pbr = 0x7E ∧ t.readByte 0x0001FF = 0x02 ∧ t.readByte 0x0001FE = 0x80 ∧ t.pc = 0x9000 := by decide

theorem test_V180_rts :
    let t := ran [0x60] { start false 0x00 with sp := 0x01FD, mem := [(0x0001FE, 0xFF), (0x0001FF, 0xFF)] }
    t.sp = 0x01FF ∧ t.pc = 0x0000 := by decide

theorem test_V181_rtl :
    let t := ran [0x6B] { start false 0x00 with sp := 0x01FC, pbr := 0x7E, pc := 0x9000, mem := [(0x0001FD, 0x03), (0x0001FE, 0x80), (0x0001FF, 0x02)] }
    t.sp = 0x01FF ∧ t.pbr = 0x02 ∧ t.pc = 0x8004 := by decide

theorem test_V182_rti :
    let t := ran [0x40] { start false 0x04 with sp := 0x01FB, mem := [(0x0001FC, 0x30), (0x0001FD, 0x34), (0x0001FE, 0x12), (0x0001FF, 0x02)] }
    t.sp = 0x01FF ∧ t.pbr = 0x02 ∧ bits t = 0x30 ∧ t.pc = 0x1234 := by decide

theorem test_V183_rti :
    let t := ran [0x40] { start true 0x34 with sp := 0x01FC, pbr := 0x02, pc := 0x9000, mem := [(0x0001FE, 0x34), (0x0001FF, 0x12)] }
    t.sp = 0x01FF ∧ bits t = 0x30 ∧ t.pc = 0x1234 := by decide

theorem test_V200_brk :
    let t := ran [0x00, 0xEA] { start true 0x38 with mem := [(0x00FFFF, 0x90)] }
    t.sp = 0x01FC ∧ t.readByte 0x0001FF = 0x80 ∧ t.readByte 0x0001FE = 0x02 ∧ bits t = 0x34 ∧ t.pc = 0x9000 := by decide

theorem test_V201_brk :
    let t := ran [0x00, 0xEA] { start false 0x08 with pbr := 0x02, mem := [(0x00FFE7, 0x90)] }
    t.sp = 0x01FB ∧ t.pbr = 0x00 ∧ t.readByte 0x0001FF = 0x02 ∧ t.readByte 0x0001FE = 0x80 ∧ bits t = 0x04 ∧ t.pc = 0x9000 := by decide

theorem test_V202_cop :
    let t := ran [0x02, 0x10] { start true 0x30 with mem := [(0x00FFF5, 0xA0)] }
    t.sp = 0x01FC ∧ t.readByte 0x0001FF = 0x80 ∧ t.readByte 0x0001FE = 0x02 ∧ bits t = 0x34 := by decide

theorem test_V203_cop :
    let t := ran [0x02, 0x10] { start false 0x04 with pbr := 0x02, mem := [(0x00FFE5, 0xA0)] }
    t.sp = 0x01FB ∧ t.pbr = 0x00 ∧ t.readByte 0x0001FF = 0x02 ∧ t.readByte 0x0001FE = 0x80 := by decide

theorem test_V204_mvn :
    let t := ran [0x54, 0x7F, 0x7E] { start false 0x00 with c := 0x0002, x := 0x1000, y := 0x2000, mem := [(0x7E1000, 0xAA)] }
    t.c = 0x0001 ∧ t.x = 0x1001 ∧ t.y = 0x2001 ∧ t.dbr = 0x7F ∧ t.readByte 0x7F2000 = 0xAA ∧ t.pc = 0x8000 := by decide

theorem test_V208_mvn :
    let t := ran [0x54, 0x00, 0x00] { start false 0x00 with c := 0x0000, x := 0x1000, y := 0x2000, mem := [(0x001000, 0x5A)] }
    t.c = 0xFFFF ∧ t.x = 0x1001 ∧ t.y = 0x2001 ∧ t.readByte 0x002000 = 0x5A ∧ t.pc = 0x8003 := by decide

theorem test_V209_rep :
    let t := ran [0xC2, 0x30] (start false 0x34)
    bits t = 0x04 ∧ t.pc = 0x8002 := by decide

theorem test_V210_rep :
    let t := ran [0xC2, 0xFF] (start true 0xFF)
    bits t = 0x30 ∧ t.pc = 0x8002 := by decide

theorem test_V211_sep :
    let t := ran [0xE2, 0x10] { start false 0x00 with x := 0x1234, y := 0xFFFF }
    t.x = 0x0034 ∧ t.y = 0x00FF ∧ bits t = 0x10 := by decide

theorem test_V212_sep :
    let t := ran [0xE2, 0x30] (start true 0x30)
    bits t = 0x30 ∧ t.pc = 0x8002 := by decide

theorem test_V213_xba :
    let t := ran [0xEB] { start true 0x30 with c := 0x0080 }
    t.c = 0x8000 ∧ bits t = 0x32 := by decide

theorem test_V214_xba :
    let t := ran [0xEB] { start false 0x00 with c := 0x8001 }
    t.c = 0x0180 ∧ bits t = 0x80 := by decide

theorem test_V215_opcode42 :
    let t := ran [0x42, 0xFF] (start false 0x00)
    bits t = 0x00 ∧ t.pc = 0x8002 := by decide

theorem test_V216_stp :
    let t := ran [0xDB] (start true 0x30)
    bits t = 0x30 ∧ t.pc = 0x8001 ∧ t.stopped = true := by decide

theorem test_V217_wai :
    let t := ran [0xCB] (start true 0x30)
    bits t = 0x30 ∧ t.pc = 0x8001 ∧ t.waiting = true := by decide

theorem test_cld : bits (ran [0xD8] (start true 0x3C)) = 0x34 := by decide

theorem test_sec : bits (ran [0x38] (start true 0x34)) = 0x35 := by decide

theorem test_sei : bits (ran [0x78] (start true 0x30)) = 0x34 := by decide

theorem test_phy :
    let t := ran [0x5A] { start false 0x00 with y := 0x1234 }
    t.readByte 0x0001FF = 0x12 ∧ t.readByte 0x0001FE = 0x34 ∧ t.sp = 0x01FD := by decide

/-- R293: the first byte of the example. -/
theorem test_mvp :
    let t := ran [0x44, 0x00, 0x00] { start false 0x00 with c := 0x0001, x := 0x1001, y := 0x1002, mem := [(0x1001, 0x22)] }
    t.readByte 0x001002 = 0x22 ∧ t.x = 0x1000 ∧ t.y = 0x1001 ∧ t.c = 0x0000 ∧ t.pc = 0x8000 := by decide

/-! ### Events at the boundary, from the vectors V230 to V242 -/

theorem test_V230_irq :
    let t := stepped { start true 0x39 with
      mem := [(0x8000, 0xEA), (0xFFFF, 0x90)], inputs := [{ StepInput.quiet with irqLow := true }] }
    t.pc = 0x9000 ∧ t.sp = 0x01FC ∧ bits t = 0x35 ∧ t.readByte 0x0001FD = 0x29 := by decide

theorem test_V231_irq_masked :
    let t := stepped { start true 0x34 with
      mem := [(0x8000, 0xEA)], inputs := [{ StepInput.quiet with irqLow := true }] }
    t.pc = 0x8001 ∧ t.sp = 0x01FF := by decide

theorem test_V233_nmi :
    let t := stepped { start false 0x04 with
      pbr := 0x02, nmiPending := true, mem := [(0xFFEB, 0xA0), (0x028000, 0xEA)] }
    t.pc = 0xA000 ∧ t.pbr = 0x00 ∧ t.sp = 0x01FB ∧ t.nmiPending = false := by decide

theorem test_V236_wai_masked :
    let t := stepped { start true 0x34 with
      pc := 0x8001, waiting := true, inputs := [{ StepInput.quiet with irqLow := true }] }
    t.pc = 0x8001 ∧ t.waiting = false := by decide

theorem test_V239_abort :
    let t := stepped { start true 0x30 with
      c := 0x1111, mem := [(0x8000, 0xA9), (0x8001, 0x80), (0xFFF9, 0xB0)]
      inputs := [{ StepInput.quiet with abort := true }] }
    t.c = 0x1111 ∧ t.pc = 0xB000 ∧ t.readByte 0x0001FF = 0x80 ∧ t.readByte 0x0001FE = 0x00 := by decide

theorem test_V241_res :
    let t := stepped { start false 0xC3 with
      x := 0x5678, d := 0x2000, dbr := 0x7E, pbr := 0x02, mem := [(0xFFFD, 0x80)]
      inputs := [{ StepInput.quiet with res := true }] }
    t.pc = 0x8000 ∧ t.d = 0x0000 ∧ t.pbr = 0x00 ∧ t.e = true := by decide

theorem test_V242_so :
    let t := stepped { start true 0x30 with
      mem := [(0x8000, 0xEA)], config := { variant := .g65sc802, abortWrites := false, pins44 := false }
      inputs := [{ StepInput.quiet with soEdge := true }] }
    bits t = 0x70 := by decide

/-! ### Witnesses: inputs that meet the hypotheses of the obligations, each clause its own -/

/-- DecodeOfEncode: each width selector at each value. -/
theorem witness_DecodeOfEncode :
    (Instr.ldaImm (.byte 0xFF)).wf true true = true ∧ (Instr.ldaImm (.word 0xFFFF)).wf false true = true ∧
    (Instr.ldxImm (.byte 0x00)).wf true true = true ∧ (Instr.ldxImm (.word 0x8000)).wf true false = true ∧
    (Instr.staLongX 0xFFFFFF).wf false false = true := by decide

theorem witness_EncodeOfDecode : decode true true [0xFF, 0xFF, 0xFF, 0xFF, 0x00] = .ok (.sbcLongX 0xFFFFFF, [0x00]) := rfl

theorem witness_OpcodeMatrix :
    (accumulatorRow .ADC = some 0x60 ∧ (Instr.adcLongX 0xFFFFFF).view = .read .ADC (.mem (.longX 0xFFFFFF))) ∧
    (accumulatorRow .STA = some 0x80 ∧ (Instr.staDir 0x00).view = .write .STA (.dir 0x00)) ∧
    (accumulatorRow .SBC = some 0xE0 ∧ (Instr.sbcImm (.byte 0xFF)).view = .read .SBC (.imm (.byte 0xFF))) ∧
    (shiftRow .INC = some 0xE0 ∧ (Instr.incAbsX 0xFFFF).view = .modify .INC (.absX 0xFFFF)) ∧
    (.bitAbsX 0xFFFF, .read .BIT (.mem (.absX 0xFFFF)), 0x3C) ∈ irregularRows (.byte 0x80) 0xFF 0xFFFF ∧
    (.ldxImm (.word 0x8000), .read .LDX (.imm (.word 0x8000)), 0xA2) ∈ irregularRows (.word 0x8000) 0x00 0x0000 ∧
    (.decAcc, [0x3A]) ∈ singleEncodings 0x00 0x00 0x0000 0x000000 ∧
    (.jsl 0xFEDCBA, [0x22, 0xBA, 0xDC, 0xFE]) ∈ singleEncodings 0x00 0xFF 0xFFFF 0xFEDCBA ∧
    (.mvn 0x7F 0x7E, [0x54, 0x7F, 0x7E]) ∈ singleEncodings 0x7F 0x7E 0x0000 0x000000 := by decide

/-- ModeInv by its parts, at both modes and both index widths. -/
theorem witness_StepKeepsModes :
    (State.reset.ModeInv ∧ step State.reset = .next (stepped State.reset)) ∧
    ((start false 0x10).ModeInv ∧ step (start false 0x10) = .next (stepped (start false 0x10))) := by
  refine ⟨⟨?_, rfl⟩, ?_, rfl⟩ <;> unfold State.ModeInv State.EmulationLocked State.IndexHighZero <;> decide

theorem witness_StepKeepsMemoryForm :
    State.MemInv { State.reset with mem := [(0xFFFF, 0x01), (0xFFFFFF, 0xFF)] } ∧
    step { State.reset with mem := [(0xFFFF, 0x01), (0xFFFFFF, 0xFF)] } =
      .next (stepped { State.reset with mem := [(0xFFFF, 0x01), (0xFFFFFF, 0xFF)] }) := by
  refine ⟨?_, rfl⟩; unfold State.MemInv; decide

/-- A G65SC802 with a byte at its highest address. -/
def part802 : State :=
  { start true 0x30 with mem := [(0xFFFF, 0x90)], config := { variant := .g65sc802, abortWrites := false, pins44 := false } }

theorem witness_StepKeepsPartLimits : PartLimits part802 ∧ step part802 = .next (stepped part802) := by
  refine ⟨?_, rfl⟩; unfold PartLimits; decide

/-- A state with one instruction's bytes at PBR:PC. -/
def holding (s : State) (i : Instr) : State := s.storeK s.pc (encode i)

theorem witness_StepRunsDecoded :
    let s := holding { start false 0x14 with pc := 0xFFFF, inputs := [{ StepInput.quiet with irqLow := true }] } (.ldaImm (.word 0x1234))
    ReachesInstruction s ∧ (Instr.ldaImm (.word 0x1234)).wf s.m8 s.x8 = true ∧
      s.HoldsAt s.pc (encode (.ldaImm (.word 0x1234))) ∧ lateCount s = 0 := by
  refine ⟨?_, by decide, ?_, rfl⟩
  · unfold ReachesInstruction OnlyLines; decide
  · exact ⟨rfl, rfl, rfl, trivial⟩

theorem witness_EventsLandBeforeBoundary :
    let so := { StepInput.quiet with soEdge := true }
    let bus := { StepInput.quiet with busWrites := [(0xFFFFFF, 0x01)] }
    let nmi := { StepInput.quiet with nmiEdge := true }
    (({ part802 with inputs := [so] }).inputs = so :: [] ∧ so.soEdge = true ∧ part802.config.variant = .g65sc802) ∧
    (({ State.reset with inputs := [so] }).inputs = so :: [] ∧ State.reset.config.variant = .g65sc816) ∧
    (({ State.reset with inputs := [bus] }).inputs = bus :: [] ∧ bus.busWrites = (0xFFFFFF, 0x01) :: []) ∧
    (({ State.reset with inputs := [nmi] }).inputs = nmi :: [] ∧ nmi.nmiEdge = true ∧ State.reset.stopped = false) := by
  decide

theorem witness_ResRestartsAndStopHolds :
    ({ start false 0x00 with stopped := true, inputs := [{ StepInput.quiet with res := true }] }).input.res = true ∧
    (let s := { part802 with stopped := true, inputs := [{ StepInput.quiet with soEdge := true, irqLow := true }] }
     s.stopped = true ∧ s.input.res = false ∧ s.input.busWrites = []) := by decide

/-- The inputs of the two interrupt clauses: NMI with a masked IRQ, on the G65SC802 with its ABORT line meaningless, and an
unmasked IRQ. -/
theorem witness_HardwareInterruptsEnter :
    (let s := { part802 with nmiPending := true, inputs := [{ StepInput.quiet with irqLow := true, abort := true }] }
     OnlyLines s.input ∧ s.input.res = false ∧ s.aborted s.input = false ∧ s.stopped = false ∧ s.waiting = false ∧
       s.nmiPending = true) ∧
    (let s := { start true 0x30 with inputs := [{ StepInput.quiet with irqLow := true }] }
     OnlyLines s.input ∧ s.input.res = false ∧ s.aborted s.input = false ∧ s.stopped = false ∧ s.waiting = false ∧
       s.nmiPending = false ∧ s.input.irqLow = true ∧ s.p.i = false) := by
  unfold OnlyLines; decide

/-- The clauses of WaitingSteps: nothing; a latched ABORT with NMI; NMI; IRQ with I = 0; IRQ with I = 1; RDY forced. -/
theorem witness_WaitingSteps :
    let w := { start false 0x00 with waiting := true }
    let irq := { StepInput.quiet with irqLow := true }
    (w.waiting = true ∧ w.stopped = false ∧ OnlyLines w.input ∧ w.input.res = false ∧ w.nmiPending = false ∧
      w.input.irqLow = false ∧ w.input.rdyForcedHigh = false) ∧
    (let s := { w with nmiPending := true, abortPending := true }
     OnlyLines s.input ∧ s.input.res = false ∧ s.nmiPending = true ∧ s.hasAbort = true ∧ s.abortPending = true) ∧
    (let s := { w with nmiPending := true }
     OnlyLines s.input ∧ s.nmiPending = true ∧ (s.abortPending || (s.hasAbort && s.input.abort)) = false) ∧
    (let s := { w with inputs := [irq] }
     OnlyLines s.input ∧ s.nmiPending = false ∧ s.input.irqLow = true ∧ s.p.i = false ∧
       (s.abortPending || (s.hasAbort && s.input.abort)) = false) ∧
    (let s := { start true 0x34 with waiting := true, inputs := [irq] }
     OnlyLines s.input ∧ s.nmiPending = false ∧ ¬(s.input.irqLow = true ∧ s.p.i = false)) ∧
    (let s := { w with inputs := [{ StepInput.quiet with rdyForcedHigh := true }] }
     OnlyLines s.input ∧ s.input.rdyForcedHigh = true ∧ s.input.irqLow = false) := by
  unfold OnlyLines; decide

/-- An ABORT asserted during STA at the last byte of a bank; one latched before, with NMI and IRQ due, at WAI, and one late in
the ABORT sequence; and one and two late ABORTs in RTI and BRK. -/
theorem witness_AbortDiscardsInstruction :
    (let s := holding { start true 0x30 with inputs := [{ StepInput.quiet with abort := true }] } (.staAbs 0xFFFF)
     s.config.variant = .g65sc816 ∧ (Instr.staAbs 0xFFFF).wf s.m8 s.x8 = true ∧
       s.HoldsAt s.pc (encode (.staAbs 0xFFFF)) ∧ OnlyLines s.input ∧ s.input.res = false ∧ s.stopped = false ∧
       s.waiting = false ∧ s.input.abort = true) ∧
    (let s := holding { start true 0x30 with
       abortPending := true, nmiPending := true
       inputs := [{ StepInput.quiet with irqLow := true, lateAborts := 1 }] } .wai
     s.config.variant = .g65sc816 ∧ Instr.wai.wf s.m8 s.x8 = true ∧ s.HoldsAt s.pc (encode .wai) ∧ OnlyLines s.input ∧
       s.input.res = false ∧ s.stopped = false ∧ s.waiting = false ∧ s.abortPending = true) ∧
    (let s := holding { start false 0x00 with inputs := [{ StepInput.quiet with lateAborts := 1 }] } .rti
     Instr.rti.wf s.m8 s.x8 = true ∧ s.HoldsAt s.pc (encode .rti) ∧ ReachesInstruction s ∧
       s.input.lateAborts = 0 + 1 ∧ Instr.rti.mnemonic ∈ [.BRK, .COP, .RTI]) ∧
    (let s := holding { start true 0x30 with inputs := [{ StepInput.quiet with lateAborts := 2 }] } (.brk 0xFF)
     (Instr.brk 0xFF).wf s.m8 s.x8 = true ∧ s.HoldsAt s.pc (encode (.brk 0xFF)) ∧ ReachesInstruction s ∧
       s.input.lateAborts = 1 + 1 ∧ (Instr.brk 0xFF).mnemonic ∈ [.BRK, .COP, .RTI]) := by
  refine ⟨⟨rfl, by decide, ⟨rfl, rfl, rfl, trivial⟩, ?_, rfl, rfl, rfl, rfl⟩,
    ⟨rfl, by decide, ⟨rfl, trivial⟩, ?_, rfl, rfl, rfl, rfl⟩,
    ⟨by decide, ⟨rfl, trivial⟩, ?_, rfl, by decide⟩, ⟨by decide, ⟨rfl, rfl, trivial⟩, ?_, rfl, by decide⟩⟩ <;>
    simp only [ReachesInstruction, OnlyLines] <;> decide

/-- Emulation mode with S at both ends of page 1, and Native mode with S = 0000. -/
theorem witness_InterruptThenRtiResumes :
    State.ModeInv { start true 0x30 with sp := 0x0100 } ∧ State.ModeInv { start true 0x30 with sp := 0x01FF } ∧
    State.ModeInv { start false 0x00 with sp := 0x0000, x := 0xFFFF } := by
  unfold State.ModeInv State.EmulationLocked State.IndexHighZero; decide

theorem witness_ProgramBankWriters :
    (let s := start false 0x00; ∃ t : State, exec (.jmpLong 0xFF0000) s = .next t ∧ t.pbr ≠ s.pbr) ∧
    (let s := { start false 0x00 with pbr := 0x02 }; ∃ t : State, step s = .next t ∧ t.pbr ≠ s.pbr) :=
  ⟨⟨_, rfl, by decide⟩, ⟨_, rfl, by decide⟩⟩

theorem witness_EmulationFlagWriters :
    (let s := start true 0x30; ∃ t : State, exec .xce s = .next t ∧ t.e ≠ s.e) ∧
    (let s := holding (start false 0x31) .xce; ∃ t : State, step s = .next t ∧ t.e ≠ s.e) :=
  ⟨⟨_, rfl, by decide⟩, ⟨_, rfl, by decide⟩⟩

/-- One change of each field RegisterWriters speaks of. -/
theorem witness_RegisterWriters :
    let s := { start false 0x00 with c := 0x1234 }
    (ran [0x5B] s).d ≠ s.d ∧ (ran [0x54, 0x01, 0x02] s).dbr ≠ s.dbr ∧ (ran [0xAA] s).x ≠ s.x ∧ (ran [0xA8] s).y ≠ s.y ∧
    (ran [0x7B] s).c ≠ s.c ∧ (ran [0x48] s).sp ≠ s.sp ∧ (ran [0xE2, 0x30] s).p.m ≠ s.p.m ∧
    (ran [0xE2, 0x30] s).p.x ≠ s.p.x ∧ (ran [0xF8] s).p.d ≠ s.p.d ∧ (ran [0x78] s).p.i ≠ s.p.i ∧
    (ran [0xE2, 0x40] s).p.v ≠ s.p.v ∧ (ran [0xCB] s).waiting ≠ s.waiting ∧ (ran [0xDB] s).stopped ≠ s.stopped ∧
    (ran [0xE2, 0x80] s).p.n ≠ s.p.n ∧ (ran [0xAA] { s with c := 0x0000 }).p.z ≠ s.p.z ∧ (ran [0x38] s).p.c ≠ s.p.c ∧
    (ran [0x5C, 0x00, 0x80, 0x7E] s).pbr ≠ s.pbr ∧ (ran [0xFB] { s with p := { s.p with c := true } }).e ≠ s.e := by
  decide

theorem witness_OnlyStoresWriteMemory :
    (Instr.ldaAbs 0xFFFF).mnemonic ∉ storingMnemonics ∧ (Instr.incAcc).view = .acc .INC ∧
    exec .incAcc State.reset = .next (ran [0x1A] State.reset) := by
  refine ⟨by decide, by decide, rfl⟩

/-- DirectAddresses: wrapping needs E = 1 and DL = 00; each way of failing it. -/
theorem witness_DirectAddresses :
    ((start true 0x30).e = true ∧ ({ start true 0x30 with d := 0xFF00 }).d.toNat % 256 = 0) ∧
    (start false 0x30).e = false ∧ ({ start true 0x30 with d := 0x0001 }).d.toNat % 256 ≠ 0 := by decide

theorem witness_loads :
    (let i := Instr.ldaImm (.word 0x8000)
     i.view = .read .LDA (.imm (.word 0x8000)) ∧ i.wf (start false 0x00).m8 (start false 0x00).x8 = true) ∧
    (let i := Instr.ldaStkRelIndY 0xFF
     i.view = .read .LDA (.mem (.stkRelIndY 0xFF)) ∧ i.wf State.reset.m8 State.reset.x8 = true) ∧
    (let i := Instr.ldxDirY 0x00
     i.view = .read .LDX (.mem (.dirY 0x00)) ∧ i.wf State.reset.m8 State.reset.x8 = true) ∧
    (let i := Instr.ldyImm (.byte 0xFF)
     i.view = .read .LDY (.imm (.byte 0xFF)) ∧ i.wf State.reset.m8 State.reset.x8 = true) := by decide

theorem witness_StoresStore :
    (Instr.staAbs 0xFFFF).view = .write .STA (.abs 0xFFFF) ∧ (Instr.stxDirY 0xFF).view = .write .STX (.dirY 0xFF) ∧
    (Instr.styDir 0x00).view = .write .STY (.dir 0x00) ∧ (Instr.stzAbsX 0x0000).view = .write .STZ (.absX 0x0000) := by
  decide

/-- AdcBinary and SbcBinary: an immediate and a memory operand, D = 0. -/
theorem witness_binary_arithmetic :
    (Instr.adcImm (.byte 0x80)).view = .read .ADC (.imm (.byte 0x80)) ∧
    (Instr.adcImm (.byte 0x80)).wf State.reset.m8 State.reset.x8 = true ∧ State.reset.p.d = false ∧
    (Instr.sbcLongX 0xFFFFFF).view = .read .SBC (.mem (.longX 0xFFFFFF)) ∧
    (Instr.sbcLongX 0xFFFFFF).wf (start false 0x00).m8 (start false 0x00).x8 = true ∧ (start false 0x00).p.d = false := by
  decide

/-- DecimalOfValidBcd: 99 and 99 at 8 bits, 9999 and 0000 at 16 bits. -/
theorem witness_DecimalOfValidBcd :
    (let s := { start true 0x38 with c := 0x0099 }
     (Instr.adcImm (.byte 0x99)).view = .read .ADC (.imm (.byte 0x99)) ∧
     (Instr.adcImm (.byte 0x99)).wf s.m8 s.x8 = true ∧ s.p.d = true ∧ s.m8 = true ∧ IsBcd 8 s.a8.toNat ∧
     IsBcd 8 (s.operand8 (.imm (.byte 0x99))).toNat) ∧
    (let s := { start false 0x08 with c := 0x9999 }
     (Instr.sbcImm (.word 0x0000)).view = .read .SBC (.imm (.word 0x0000)) ∧
     (Instr.sbcImm (.word 0x0000)).wf s.m8 s.x8 = true ∧ s.p.d = true ∧ s.m8 = false ∧ IsBcd 16 s.c.toNat ∧
     IsBcd 16 (s.operand16 (.imm (.word 0x0000))).toNat) := by
  unfold IsBcd; decide

/-- DecimalAlwaysCompletes: operands that are no BCD. -/
theorem witness_DecimalAlwaysCompletes :
    let s := { start true 0x38 with c := 0x00FF }
    (Instr.adcImm (.byte 0x0A)).view = .read .ADC (.imm (.byte 0x0A)) ∧ s.p.d = true ∧
    (Instr.sbcImm (.byte 0xA0)).view = .read .SBC (.imm (.byte 0xA0)) := by decide

theorem witness_LogicalOperations :
    (Instr.andDir 0xFF).view = .read .AND (.mem (.dir 0xFF)) ∧
    (Instr.oraImm (.word 0x8000)).view = .read .ORA (.imm (.word 0x8000)) ∧
    (Instr.oraImm (.word 0x8000)).wf false true = true ∧
    (Instr.eorDirInd 0x00).view = .read .EOR (.mem (.dirInd 0x00)) ∧ (Instr.eorDirInd 0x00).wf true true = true := by decide

theorem witness_Compares :
    (Instr.cmpImm (.byte 0x00)).view = .read .CMP (.imm (.byte 0x00)) ∧ (Instr.cmpImm (.byte 0x00)).wf true true = true ∧
    (Instr.cpxImm (.word 0xFFFF)).view = .read .CPX (.imm (.word 0xFFFF)) ∧
    (Instr.cpxImm (.word 0xFFFF)).wf true false = true ∧ (Instr.cpyAbs 0xFFFF).view = .read .CPY (.mem (.abs 0xFFFF)) := by
  decide

theorem witness_BitTests :
    (Instr.bitImm (.byte 0xC0)).view = .read .BIT (.imm (.byte 0xC0)) ∧ (Instr.bitImm (.byte 0xC0)).wf true true = true ∧
    (Instr.bitAbsX 0xFFFF).view = .read .BIT (.mem (.absX 0xFFFF)) := by decide

theorem witness_modifies :
    Instr.aslAcc.view = .acc .ASL ∧ Instr.rorAcc.view = .acc .ROR ∧
    (Instr.incDirX 0xFF).view = .modify .INC (.dirX 0xFF) ∧ (Instr.tsbAbs 0xFFFF).view = .modify .TSB (.abs 0xFFFF) := by
  decide

theorem witness_ShortBranches :
    (Instr.bpl 0x80).view = .branch .BPL 0x80 ∧ branchTaken .BPL State.reset.p = true ∧
    (Instr.bmi 0x7F).view = .branch .BMI 0x7F ∧ branchTaken .BMI State.reset.p = false := by decide

theorem witness_XceExchanges :
    (start false 0x01).p.c = true ∧ (start true 0x30).p.c = false ∧
    exec .xce (start true 0x30) = .next (ran [0xFB] (start true 0x30)) ∧ (ran [0xFB] (start true 0x30)).e ≠ true :=
  ⟨rfl, rfl, rfl, by decide⟩

theorem witness_BlockMoveWhole : ({ start false 0x00 with c := 0x0000 }).x8 = false ∧ ({ start false 0x20 with c := 0xFFFF }).x8 = false := by
  decide

theorem witness_BusWritesMakeMemory :
    (let s := { start true 0x30 with mem := [(0x2000, 0xFF)] }
     exec (.incAbs 0x2000) s = .next (ran [0xEE, 0x00, 0x20] s)) ∧
    step { State.reset with abortPending := true } = .next (stepped { State.reset with abortPending := true }) := ⟨rfl, rfl⟩

/-- A pointer and its operand kept, every other byte changed. -/
theorem witness_BusReadsDecideResult :
    let s := { start false 0x30 with mem := [(0x10, 0x34), (0x11, 0x12), (0x1234, 0x80), (0x1235, 0x01)] }
    let m : Memory := [(0x10, 0x34), (0x11, 0x12), (0x1234, 0x80), (0x1235, 0x7F), (0x8000, 0xFF)]
    ∀ x ∈ s.instrAccesses (.ldaDirInd 0x10), IsDataRead x →
      m.read (physAddr s.config.variant x.addr) = s.mem.read (physAddr s.config.variant x.addr) := by
  unfold IsDataRead; decide

/-- The clauses of StatusOutputs: RES; a settled first access; the access behind P of an RTI that keeps M and X; a step that
changes M. -/
theorem witness_StatusOutputs :
    (let s := { State.reset with inputs := [{ StepInput.quiet with res := true }] }
     s.config.variant = .g65sc816 ∧ s.input.res = true ∧ s.stepCycles.length = 5) ∧
    (let s := start false 0x00
     s.input.res = false ∧ s.lastM = s.p.m ∧ s.lastX = s.p.x ∧ s.stepCycles.length = 8) ∧
    (let s := holding (start true 0x30) .rti
     s.input.res = false ∧ (stepped s).p.m = s.p.m ∧ (stepped s).p.x = s.p.x ∧ s.stepCycles.length = 4) ∧
    (let s := holding (start false 0x00) (.sep 0x20)
     s.input.res = false ∧ (stepped s).p.m ≠ s.p.m ∧ (stepped s).mxJustChanged = true) := by decide

theorem witness_BusOrderAndPins :
    (start false 0x00).m8 = false ∧ (start false 0x20).e = false ∧ (start false 0x20).p.m = true ∧ (start true 0x30).e = true ∧ State.reset.config.variant = .g65sc816 ∧
    part802.config.variant = .g65sc802 ∧ (Access.read .vector 0).kind = .vector := by decide

/-! ### The bus and the boundary, from Table 9 (20b) and the listings of 95_test_vectors.md 1.3 -/

/-- R72: the pushed PCH (80) lies over the third byte (90), so the table is at 8000 + X. -/
theorem test_jsr_indexed_fetches_high_byte_after_push :
    let s := { start false 0x00 with x := 0x0010, sp := 0x8002, mem := [(0x8000, 0xFC), (0x8002, 0x90), (0x8010, 0x34), (0x8011, 0x12)] }
    (stepped s).pc = 0x1234 ∧ s.stepAccesses.map (·.addr) = [0x008000, 0x008001, 0x008002, 0x008001, 0x008002, 0x008010, 0x008011] := by
  decide

/-- R317: ABORT before NMI, and the NMI stays pending. -/
theorem test_abort_goes_before_nmi :
    let t := stepped { start true 0x30 with
      nmiPending := true, mem := [(0xFFF9, 0xB0), (0xFFFB, 0xA0)], inputs := [{ StepInput.quiet with abort := true }] }
    t.pc = 0xB000 ∧ t.nmiPending = true ∧ (stepped t).pc = 0xA000 := by decide

/-- R314, note 3: an ABORT behind the last abortable cycle of RTI is too late for P (30) and PBR (7E), which the ABORT sequence
stacks from the old S, and so XH is cut (R22); its accesses are RTI's pulls and the sequence. -/
theorem test_late_abort_in_rti :
    let s := { start false 0x00 with
      pbr := 0x02, x := 0x5678, sp := 0x01F0, inputs := [{ StepInput.quiet with lateAborts := 1 }]
      mem := [(0x01F1, 0x30), (0x01F2, 0x34), (0x01F3, 0x12), (0x01F4, 0x7E), (0xFFE9, 0xB0), (0x028000, 0x40)] }
    let t := stepped s
    t.pc = 0xB000 ∧ t.x = 0x0078 ∧ t.sp = 0x01EC ∧
    [t.readByte 0x0001F0, t.readByte 0x0001EF, t.readByte 0x0001EE, t.readByte 0x0001ED] = [0x7E, 0x80, 0x00, 0x30] ∧
    s.stepAccesses.map (·.addr) = [0x028000, 0x0001F1, 0x0001F2, 0x0001F3, 0x0001F4, 0x0001F0, 0x0001EF, 0x0001EE,
      0x0001ED, 0x00FFE8, 0x00FFE9] := by decide

/-- R314, note 3: a late ABORT in the sequence of an NMI finds D cleared, I set and PBR 00; S is that of before. -/
theorem test_late_abort_in_nmi :
    let t := stepped { start false 0x08 with
      pbr := 0x02, nmiPending := true, mem := [(0xFFE9, 0xB0)], inputs := [{ StepInput.quiet with lateAborts := 1 }] }
    t.pc = 0xB000 ∧ t.sp = 0x01FB ∧
    [t.readByte 0x0001FF, t.readByte 0x0001FE, t.readByte 0x0001FC] = [0x00, 0x80, 0x04] := by decide

/-- BRK in Native mode on the G65SC816: VDA, VPA, VP and R/W of its eight cycles. -/
theorem test_bus_brk :
    ({ start false 0x00 with pbr := 0x02 } : State).stepCycles.map (fun (b : BusCycle) => (b.pins.vda, b.pins.vpa, b.pins.vp, b.pins.rw)) =
      [(some true, some true, some true, true), (some false, some true, some true, true),
       (some true, some false, some true, false), (some true, some false, some true, false),
       (some true, some false, some true, false), (some true, some false, some true, false),
       (some true, some false, some false, true), (some true, some false, some false, true)] := by decide

/-- Table 1: on the 40-pin G65SC802, SYNC in the opcode fetch, INC's two writes last, and no ML pin. -/
theorem test_bus_inc_802 :
    ({ part802 with mem := [(0x8000, 0xEE), (0x8002, 0x20)] } : State).stepCycles.map
        (fun (b : BusCycle) => (b.address, b.data, b.pins.sync, b.pins.rw, b.pins.ml)) =
      [(0x8000, 0xEE, some true, true, none), (0x8001, 0x00, some false, true, none),
       (0x8002, 0x20, some false, true, none), (0x2000, 0x00, some false, true, none),
       (0x2000, 0x00, some false, false, none), (0x2000, 0x01, some false, false, none)] := by decide

/-- R45: a change of M leaves M/X open for the first cycle of the next step alone, and reset leaves it settled. -/
theorem test_mx_output_invalid_for_one_cycle :
    let s := stepped (holding { start false 0x00 with mem := [(0x8002, 0xEA)] } (.sep 0x20))
    s.mxInvalid 0 = true ∧ s.mxInvalid 1 = false ∧ (stepped s).mxInvalid 0 = false ∧
    (stepped { s with inputs := [{ StepInput.quiet with res := true }] }).mxJustChanged = false := by decide

/-- R45, R72: RTI pulls P in its second access, so a change of M leaves the pulls behind it open too. -/
theorem test_mx_output_in_rti :
    let s := holding { start false 0x00 with sp := 0x01F0, mem := [(0x01F1, 0x20)] } .rti
    s.mxInvalid 0 = false ∧ s.mxInvalid 1 = false ∧ s.mxInvalid 2 = true := by decide


end Sys2Proof.Tests
end

section
/-! PROOFS. The opcode matrix cell by cell: what each layout makes of its operand bytes (R91, R92, R93), and the fetch of an
instruction whose bytes stand at PBR:PC. -/

namespace Sys2Proof

@[simp] theorem mkWord_hiByte_loByte (v : Word) : mkWord (hiByte v) (loByte v) = v :=
  (BitVec.extractLsb'_append_extractLsb'_eq_extractLsb' rfl).trans BitVec.extractLsb'_eq_self

@[simp] theorem mkAddr_addrBank_addrOff (a : Addr) : mkAddr (addrBank a) (addrOff a) = a :=
  (BitVec.extractLsb'_append_extractLsb'_eq_extractLsb' rfl).trans BitVec.extractLsb'_eq_self

/-- The cell of the matrix makes the instruction of these operand bytes: one case per layout of R91, an immediate with the
width its selector asks for (R93). -/
inductive Row.Makes (m8 x8 : Bool) : Row → Instr → List Byte → Prop where
  | none (i : Instr) : Makes m8 x8 (.none i) i []
  | byte (f : Byte → Instr) (b : Byte) : Makes m8 x8 (.byte f) (f b) [b]
  | word (f : Word → Instr) (v : Word) : Makes m8 x8 (.word f) (f v) (wordBytes v)
  | addr (f : Addr → Instr) (a : Addr) : Makes m8 x8 (.addr f) (f a) (addrBytes a)
  | banks (f : Byte → Byte → Instr) (dst src : Byte) : Makes m8 x8 (.banks f) (f dst src) [dst, src]
  | immM (f : Imm → Instr) (v : Imm) (fits : v.fits m8 = true) : Makes m8 x8 (.immM f) (f v) v.encode
  | immX (f : Imm → Instr) (v : Imm) (fits : v.fits x8 = true) : Makes m8 x8 (.immX f) (f v) v.encode

variable {m8 x8 : Bool}

/-- An immediate of the selected width is read back (R93). -/
theorem takeImm_encode {sel : Bool} (f : Imm → Instr) (v : Imm) (rest : List Byte) (fits : v.fits sel = true) :
    takeImm sel f (v.encode ++ rest) = .ok (f v, rest) := by
  cases v with
  | byte b =>
    have hsel : sel = true := fits
    simp [takeImm, hsel, Imm.encode, takeByte]
  | word w =>
    have hsel : sel = false := by simpa [Imm.fits] using fits
    simp [takeImm, hsel, Imm.encode, wordBytes, takeWord]

/-- The decoder reads the instruction a cell makes, and leaves what follows it. -/
theorem decode_of_makes {op : Byte} {i : Instr} {bytes : List Byte} (h : (rowOf op).Makes m8 x8 i bytes)
    (rest : List Byte) : decode m8 x8 (op :: bytes ++ rest) = .ok (i, rest) := by
  rw [List.cons_append, decode]
  generalize rowOf op = row at h
  cases h with
  | none i => rfl
  | byte f b => rfl
  | word f v => simp [wordBytes, takeWord]
  | addr f a => simp [addrBytes, takeAddr]
  | banks f dst src => rfl
  | immM f v fits => exact takeImm_encode f v rest fits
  | immX f v fits => exact takeImm_encode f v rest fits

/-- No layout has more than three operand bytes (R95). -/
theorem Row.Makes.length_le {row : Row} {i : Instr} {bytes : List Byte} (h : row.Makes m8 x8 i bytes) :
    bytes.length ≤ 3 := by
  cases h with
  | none i => exact Nat.zero_le 3
  | byte f b => simp
  | word f v => simp [wordBytes]
  | addr f a => exact Nat.le_refl 3
  | banks f dst src => simp
  | immM f v fits => cases v <;> simp [Imm.encode, wordBytes]
  | immX f v fits => cases v <;> simp [Imm.encode, wordBytes]

/-- Every well-formed instruction is encoded as an opcode and what its cell of the matrix asks for (R97). -/
theorem encode_makes {i : Instr} (h : i.wf m8 x8 = true) :
    ∃ op bytes, encode i = op :: bytes ∧ (rowOf op).Makes m8 x8 i bytes := by
  cases i <;> refine ⟨_, _, rfl, ?_⟩ <;> constructor <;> exact h

/-- Decoding an encoded instruction gives it back, whatever follows (R91 to R97). -/
theorem decode_encode_append {i : Instr} (h : i.wf m8 x8 = true) (rest : List Byte) :
    decode m8 x8 (encode i ++ rest) = .ok (i, rest) := by
  obtain ⟨op, bytes, henc, hmakes⟩ := encode_makes h
  rw [henc]
  exact decode_of_makes hmakes rest

theorem encode_length_le {i : Instr} (h : i.wf m8 x8 = true) : (encode i).length ≤ 4 := by
  obtain ⟨op, bytes, henc, hmakes⟩ := encode_makes h
  rw [henc, List.length_cons]
  exact Nat.succ_le_succ hmakes.length_le

namespace Machine.State

/-- Bytes that stand at PBR:PC head what the fetch hands over (R28, R91). -/
theorem fetchBytes_of_holdsAt {s : State} {bytes : List Byte} (h : s.HoldsAt s.pc bytes) (hlen : bytes.length ≤ 4) :
    ∃ rest, s.fetchBytes = bytes ++ rest := by
  match bytes with
  | [] => exact ⟨_, rfl⟩
  | [_] => simp_all [HoldsAt, fetchBytes]
  | [_, _] => simp_all [HoldsAt, fetchBytes]
  | [_, _, _] => simp_all [HoldsAt, fetchBytes, BitVec.add_assoc]
  | [_, _, _, _] => simp_all [HoldsAt, fetchBytes, BitVec.add_assoc]
  | _ :: _ :: _ :: _ :: _ :: _ =>
    simp only [List.length_cons] at hlen
    omega

/-- The fetch finds the instruction whose bytes stand at PBR:PC (R14, R93). -/
theorem fetch_of_holdsAt {s : State} {i : Instr} (hwf : i.wf s.m8 s.x8 = true) (h : s.HoldsAt s.pc (encode i)) :
    s.fetch = .ok i := by
  obtain ⟨rest, hbytes⟩ := fetchBytes_of_holdsAt h (encode_length_le hwf)
  rw [fetch, hbytes, decode_encode_append hwf rest]

end Machine.State

end Sys2Proof
end

section
/-! PROOFS. A step whose boundary reaches the instruction (R14, R316 line 6). -/

namespace Sys2Proof.Claims

open Sys2Proof Sys2Proof.Machine

/-- Where nothing but the interrupt lines happens between two steps, the events only take the input off the list and note M
and X. -/
theorem takeEvents_eq_popped {s : State} (h : OnlyLines s.input) : s.takeEvents s.input = popped s := by
  obtain ⟨hso, hnmi, hbus⟩ := h
  rw [takeEvents_eq, hso, hnmi, hbus]
  simp [popped, State.applyBusWrites, State.enterStep, State.mxJustChanged]

/-- Taking the input off the list changes nothing the fetch reads. -/
theorem fetch_popped (s : State) : (popped s).fetch = s.fetch := rfl

/-- The late ABORTs the boundary sees are those of the statements (R7, R314). -/
theorem lateAborts_popped (s : State) : (popped s).lateAborts s.input = lateCount s := by
  simp [State.lateAborts, State.hasAbort, popped, lateCount]

/-- The boundary reaches the instruction when nothing before line 6 of R316 applies. -/
theorem boundary_eq_runUnaborted {s : State} {inp : StepInput} (hres : inp.res = false) (hstopped : s.stopped = false)
    (hwaiting : s.waiting = false) (habort : s.aborted inp = false) (hnmi : s.nmiPending = false)
    (hirq : inp.irqLow = false ∨ s.p.i = true) : s.boundary inp = s.runUnaborted (s.lateAborts inp) := by
  have hline : (inp.irqLow && !s.p.i) = false := by
    rcases hirq with hhigh | hmask
    · simp [hhigh]
    · simp [hmask]
  simp [State.boundary, hres, hstopped, hwaiting, habort, hnmi, hline]

/-- Where the boundary reaches the instruction, the step runs it under its late ABORTs (R316 line 6). -/
theorem step_of_reachesInstruction {s : State} (h : ReachesInstruction s) :
    step s = (popped s).runUnaborted (lateCount s) := by
  obtain ⟨hlines, hres, hstopped, hwaiting, hnmi, hirq, habort⟩ := h
  rw [step_eq, takeEvents_eq_popped hlines, ← lateAborts_popped]
  exact boundary_eq_runUnaborted hres hstopped hwaiting habort hnmi hirq

/-- An instruction that no late ABORT can hit runs whole (R314, note 3 of Table 9). -/
theorem runUnaborted_eq_exec {s : State} {i : Instr} {late : Nat} (hfetch : s.fetch = .ok i)
    (hlate : late = 0 ∨ hasLastAbortableCycle i = false) : s.runUnaborted late = exec i s := by
  obtain ⟨j, t, hj, ht, hrun⟩ := runUnaborted_cases s late
  obtain rfl : i = j := Except.ok.inj (hfetch.symm.trans hj)
  rcases hrun with ⟨-, hwhole⟩ | ⟨n, hn, hlast, -⟩
  · exact hwhole.trans ht.symm
  · rcases hlate with h0 | hnone
    · omega
    · simp [hlast] at hnone

end Sys2Proof.Claims

namespace Sys2Proof

open Sys2Proof.Machine Sys2Proof.Claims

/-- Settles O11: the fetch finds the instruction because the decoder reads back its encoding. -/
theorem stepRunsDecoded : Obligations.StepRunsDecoded := by
  intro s i hreach hwf hbytes hlate
  have hfetch : (popped s).fetch = .ok i := (fetch_popped s).trans (State.fetch_of_holdsAt hwf hbytes)
  rw [step_of_reachesInstruction hreach]
  exact runUnaborted_eq_exec hfetch (hlate.imp_right fun hnot => by simp [hasLastAbortableCycle, hnot])

end Sys2Proof
end

section
/-! PROOFS. The bus order of R72 and R73 in closed form: pushes and pulls at the slots counted from S, the byte of P, the
vectors, the accesses of the instructions whose order the spec writes out, and the pins of an access on each part. -/

namespace Sys2Proof

@[simp] theorem hiByte_mkWord (hi lo : Byte) : hiByte (mkWord hi lo) = hi := BitVec.extractLsb'_append_eq_left

@[simp] theorem loByte_mkWord (hi lo : Byte) : loByte (mkWord hi lo) = lo := BitVec.extractLsb'_append_eq_right

end Sys2Proof

namespace Sys2Proof.Claims

open Sys2Proof Sys2Proof.Machine

/-! ### Slots of the stack -/

/-- The slot of the first push is S itself. -/
theorem down_zero (s : State) : down s 0 = s.sp := by
  cases h : s.e <;> simp [down, h]

/-- One push on, the slots are counted from the next one (R220). -/
theorem down_push8 (s : State) (b : Byte) (n : Nat) : down (s.push8 b) n = down s (n + 1) := by
  cases h : s.e <;> simp [down, State.push8, State.spAfterPush, h, BitVec.ofNat_add, sub_add_eq_sub_sub_swap]

/-- One pull on, the slots are counted from the next one (R221). -/
theorem up_pull8 (s : State) (n : Nat) : up s.pull8.2 n = up s (n + 1) := by
  cases h : s.e <;> simp [up, State.spAfterPull, h, BitVec.ofNat_add, add_right_comm, ← add_assoc]

/-- Ordinary pushes write their bytes at the slots downward from S (R220). -/
theorem pushAccesses_eq (s : State) (bytes : List Byte) :
    s.pushAccesses bytes = bytes.zipIdx.map fun q => .write (mkAddr 0 (down s q.2)) q.1 := by
  induction bytes generalizing s with
  | nil => rfl
  | cons b rest ih =>
    rw [State.pushAccesses, ih, List.zipIdx_cons', List.map_cons, List.map_map]
    simp [down_zero, bank0, down_push8]

/-- Ordinary pulls read the slots upward from the one above S (R221). -/
theorem pullAccesses_eq (s : State) (n : Nat) :
    s.pullAccesses n = (List.range n).map fun k => .read .data (mkAddr 0 (up s (k + 1))) := by
  induction n generalizing s with
  | zero => rfl
  | succ n ih =>
    have hfirst : s.spAfterPull = up s 1 := rfl
    rw [State.pullAccesses, ih, List.range_succ_eq_map, List.map_cons, List.map_map]
    simp [hfirst, bank0, up_pull8]

/-! ### Interrupt sequences -/

/-- Eight bits in order are the number they write in base 2. -/
theorem bits_eq_ofNat : ∀ n v m x d i z c : Bool,
    BitVec.ofBool n ++ BitVec.ofBool v ++ BitVec.ofBool m ++ BitVec.ofBool x ++ BitVec.ofBool d ++ BitVec.ofBool i ++
        BitVec.ofBool z ++ BitVec.ofBool c =
      BitVec.ofNat 8 (128 * n.toNat + 64 * v.toNat + 32 * m.toNat + 16 * x.toNat + 8 * d.toNat + 4 * i.toNat +
        2 * z.toNat + c.toNat) := by
  decide

/-- The byte of P that is pushed, as bits and as a number (R231, R321). -/
theorem toByte_eq_statusByte (s : State) (four : Bool) : s.p.toByte s.e four = statusByte s four :=
  bits_eq_ofNat ..

/-- The software sources are BRK and COP (R321). -/
theorem software_eq_decide (k : Interrupt) : k.software = decide (k = .brk ∨ k = .cop) := by
  cases k <;> rfl

/-- The vector's low byte stands where R311 has it. -/
theorem bank0_vector (k : Interrupt) (e : Bool) : bank0 (k.vector e) = vectorAddr k e := by
  cases k <;> cases e <;> rfl

/-- The vector's high byte stands one address up: no vector begins at the end of bank 00. -/
theorem bank0_vector_succ (k : Interrupt) (e : Bool) : bank0 (k.vector e + 1) = vectorAddr k e + 1 := by
  cases k <;> cases e <;> rfl

/-- The accesses of an interrupt sequence at their slots and vector addresses (R320, R322). -/
theorem interruptAccesses_eq (s : State) (k : Interrupt) (r : Word) :
    s.interruptAccesses k r
      = ((((if s.e then [] else [s.pbr]) ++
            [hiByte r, loByte r, statusByte s (decide (k = .brk ∨ k = .cop))]).zipIdx).map
          (fun q => .write (mkAddr 0 (down s q.2)) q.1)) ++
        [.read .vector (vectorAddr k s.e), .read .vector (vectorAddr k s.e + 1)] := by
  rw [State.interruptAccesses, pushAccesses_eq, State.interruptBytes, toByte_eq_statusByte, software_eq_decide,
    State.vectorAccesses, bank0_vector, bank0_vector_succ]

/-! ### Instructions of mode `a`, JSR `(a,x)`, RTI, BRK and COP -/

/-- Where mode `a` has its operand (R117). -/
def absPlace (s : State) (a : Word) : Place := .long (mkAddr s.dbr a)

/-- LDA `a` fetches and reads its operand (R72). -/
theorem instrAccesses_ldaAbs (s : State) (a : Word) :
    s.instrAccesses (.ldaAbs a)
      = [fetched s 0, fetched s 1, fetched s 2] ++ State.placeReads s.m8 (absPlace s a) := rfl

/-- STA `a` fetches and writes its operand (R72). -/
theorem instrAccesses_staAbs (s : State) (a : Word) :
    s.instrAccesses (.staAbs a)
      = [fetched s 0, fetched s 1, fetched s 2] ++ State.placeWrites s.m8 (absPlace s a) s.c := rfl

/-- INC `a` fetches and then has the locked end of a read-modify-write (R72, R73). -/
theorem instrAccesses_incAbs (s : State) (a : Word) :
    s.instrAccesses (.incAbs a)
      = [fetched s 0, fetched s 1, fetched s 2] ++ s.modifyAccesses incFn (absPlace s a) := rfl

/-- A 16-bit read-modify-write reads low byte first and writes back high byte first (R72, D21). -/
theorem modifyAccesses_wide {s : State} (f : RmwFn) (pl : Place) (h : s.m8 = false) :
    s.modifyAccesses f pl =
      [(Access.read .data pl.first).lock, (Access.read .data pl.second).lock,
        (Access.write pl.second (hiByte (f 16 (s.acc 16) s.p (s.load16 pl)).1)).lock,
        (Access.write pl.first (loByte (f 16 (s.acc 16) s.p (s.load16 pl)).1)).lock] := by
  simp [State.modifyAccesses, State.placeReads, h]

/-- An 8-bit read-modify-write in Native mode writes its result alone (R73). -/
theorem modifyAccesses_narrow_native {s : State} (f : RmwFn) (pl : Place) (he : s.e = false) (hm : s.p.m = true) :
    s.modifyAccesses f pl =
      [(Access.read .data pl.first).lock, (Access.write pl.first (f 8 (s.acc 8) s.p (s.load8 pl)).1).lock] := by
  simp [State.modifyAccesses, State.placeReads, State.m8, he, hm]

/-- A read-modify-write in Emulation mode writes the old value first (R73). -/
theorem modifyAccesses_emulation {s : State} (f : RmwFn) (pl : Place) (he : s.e = true) :
    s.modifyAccesses f pl =
      [(Access.read .data pl.first).lock, (Access.write pl.first (s.load8 pl)).lock,
        (Access.write pl.first (f 8 (s.acc 8) s.p (s.load8 pl)).1).lock] := by
  simp [State.modifyAccesses, State.placeReads, State.m8, he]

/-- JSR `(a,x)` reads its table at the late operand plus X (R72, R131, R273; log 13). -/
theorem lateOperand_eq_lateHigh (s : State) (a : Word) : s.lateOperand a = mkWord (lateHigh s a) (loByte a) :=
  s.lateOperand_eq a

/-- The accesses of JSR `(a,x)`: the pushes come before the third byte is fetched (R72). -/
theorem instrAccesses_jsrAbsXInd (s : State) (a : Word) :
    s.instrAccesses (.jsrAbsXInd a) =
      [fetched s 0, fetched s 1, .write (mkAddr 0 s.sp) (hiByte (s.pc + 2)),
        .write (mkAddr 0 (s.sp - 1)) (loByte (s.pc + 2)), fetched s 2,
        .read .table (mkAddr s.pbr (s.lateOperand a + s.x)),
        .read .table (mkAddr s.pbr (s.lateOperand a + s.x + 1))] := rfl

/-- RTI fetches one byte and pulls three, in Native mode four (R277). -/
theorem instrAccesses_rti (s : State) :
    s.instrAccesses .rti
      = fetched s 0 :: (List.range (if s.e then 3 else 4)).map fun n => .read .data (mkAddr 0 (up s (n + 1))) :=
  congrArg (fetched s 0 :: ·) (pullAccesses_eq s _)

/-- BRK fetches two bytes before its sequence (R290). -/
theorem instrAccesses_brk (s : State) (sig : Byte) :
    s.instrAccesses (.brk sig) = [fetched s 0, fetched s 1] ++ s.interruptAccesses .brk (s.pc + 2) := rfl

/-- COP fetches two bytes before its sequence (R291). -/
theorem instrAccesses_cop (s : State) (sig : Byte) :
    s.instrAccesses (.cop sig) = [fetched s 0, fetched s 1] ++ s.interruptAccesses .cop (s.pc + 2) := rfl

/-! ### Pins -/

/-- The pins of the G65SC816 that do not depend on the kind of access but for VP (R3, R73, R322). -/
theorem accessPins_816 {s : State} (h : s.config.variant = .g65sc816) (mx : Bool × Bool) (x : Access) :
    s.accessPins mx x =
      { rw := x.written.isNone, sync := none, vda := some x.kind.vda, vpa := some x.kind.vpa
        vp := some (decide (x.kind ≠ .vector)), ml := some (!x.locked)
        e := some s.e, m := some mx.1, x := some mx.2 } := by
  simp [State.accessPins, State.hasSo, State.hasAbort, State.hasStatusPins, State.pinE, h, bne, beq_eq_decide]

/-- The pins of the G65SC802: SYNC always, E, ML and VP in the 44-pin package (R3). -/
theorem accessPins_802 {s : State} (h : s.config.variant = .g65sc802) (mx : Bool × Bool) (x : Access) :
    s.accessPins mx x =
      { rw := x.written.isNone, sync := some (decide (x.kind = .opcode)), vda := none, vpa := none
        vp := if s.config.pins44 then some (decide (x.kind ≠ .vector)) else none
        ml := if s.config.pins44 then some (!x.locked) else none
        e := if s.config.pins44 then some s.e else none, m := none, x := none } := by
  simp [State.accessPins, State.hasSo, State.hasAbort, State.hasStatusPins, State.pinE, h, bne, beq_eq_decide]

end Sys2Proof.Claims

namespace Sys2Proof

open Sys2Proof.Machine Sys2Proof.Claims

/-- Settles O24: each clause is the closed form of one access list, or of the pins of one part. -/
theorem busOrderAndPins : Obligations.BusOrderAndPins := by
  refine ⟨?wide, ?narrow, ?emulation, ?jsr, instrAccesses_rti, interruptAccesses_eq, ?software, ?pins⟩
  case wide =>
    intro s a hm p code
    refine ⟨?_, ?_, ?_⟩
    · rw [instrAccesses_ldaAbs, hm]
      rfl
    · rw [instrAccesses_staAbs, hm]
      rfl
    · rw [instrAccesses_incAbs, modifyAccesses_wide _ _ hm]
      rfl
  case narrow =>
    intro s a he hm p
    rw [instrAccesses_incAbs, modifyAccesses_narrow_native _ _ he hm]
    rfl
  case emulation =>
    intro s a he p
    rw [instrAccesses_incAbs, modifyAccesses_emulation _ _ he]
    rfl
  case jsr =>
    intro s a p
    rw [instrAccesses_jsrAbsXInd, lateOperand_eq_lateHigh]
  case software => exact fun s sig => ⟨instrAccesses_brk s sig, instrAccesses_cop s sig⟩
  case pins =>
    intro s mx x pins
    refine ⟨rfl, fun h => ?_, fun h => ?_⟩
    · simp only [pins, accessPins_816 h]
      refine ⟨trivial, ?_, ?_, ?_⟩
      · intro hk
        simp [hk, AccessKind.vda, AccessKind.vpa]
      · intro hk
        simp [hk, AccessKind.vda, AccessKind.vpa]
      · rintro (hk | hk) <;> simp [hk, AccessKind.vda, AccessKind.vpa]
    · simp only [pins, accessPins_802 h]

end Sys2Proof
end

section
/-! PROOFS. What no instruction touches: the latches, the parameters, the inputs and the model's own counters stay, and memory
changes by byte writes at addresses the memory system sees (R61). One lemma per operation, then one for `exec`. -/

namespace Sys2Proof.Machine

open Sys2Proof

/-- The second memory is the first after some byte writes at addresses of the part (R61). -/
inductive WrittenFrom (v : Variant) (m : Memory) : Memory → Prop where
  | refl : WrittenFrom v m m
  | write {n : Memory} (h : WrittenFrom v m n) (a : Addr) (b : Byte) : WrittenFrom v m (n.write (physAddr v a) b)

theorem WrittenFrom.trans {v : Variant} {l m n : Memory} (h : WrittenFrom v l m) (h' : WrittenFrom v m n) :
    WrittenFrom v l n := by
  induction h' with
  | refl => exact h
  | write _ a b ih => exact ih.write a b

/-- What every byte write keeps, any number of them keeps. -/
theorem WrittenFrom.keeps {v : Variant} {m n : Memory} (h : WrittenFrom v m n) {Q : Memory → Prop}
    (keep : ∀ m a b, Q m → Q (m.write (physAddr v a) b)) (hm : Q m) : Q n := by
  induction h with
  | refl => exact hm
  | write _ a b ih => exact keep _ a b ih

namespace State

/-- The fields no instruction touches: the latches, the parameters, the inputs and the model's own notes. -/
def surroundings (s : State) : Bool × Bool × Config × List StepInput × Nat × Bool × Bool :=
  (s.nmiPending, s.abortPending, s.config, s.inputs, s.freeCount, s.lastM, s.lastX)

/-- `t` is what an instruction may leave of `s`. -/
structure InstrFrame (s t : State) : Prop where
  /-- The surroundings stay. -/
  surroundings : t.surroundings = s.surroundings
  /-- Memory changes by writes alone. -/
  mem : WrittenFrom s.config.variant s.mem t.mem

namespace InstrFrame

variable {s t u : State}

theorem config (h : InstrFrame s t) : t.config = s.config := congrArg (·.2.2.1) h.surroundings

/-- An operation that writes registers alone. -/
theorem registers (h : t.surroundings = s.surroundings) (hm : t.mem = s.mem) : InstrFrame s t :=
  ⟨h, hm ▸ .refl⟩

theorem refl (s : State) : InstrFrame s s := registers rfl rfl

theorem trans (h : InstrFrame s t) (h' : InstrFrame t u) : InstrFrame s u :=
  ⟨h'.surroundings.trans h.surroundings, h.mem.trans (h.config ▸ h'.mem)⟩

/-- Registers may be written behind it. -/
theorem then_registers (h : InstrFrame s t) (hs : u.surroundings = t.surroundings) (hm : u.mem = t.mem) :
    InstrFrame s u :=
  h.trans (registers hs hm)

/-- Registers may be written before it. -/
theorem after_registers (h : InstrFrame t u) (hs : t.surroundings = s.surroundings) (hm : t.mem = s.mem) :
    InstrFrame s u :=
  (registers hs hm).trans h

/-- An operation that chooses by a width or a condition. -/
theorem ite {c : Prop} [Decidable c] (ht : InstrFrame s t) (hu : InstrFrame s u) : InstrFrame s (if c then t else u) := by
  split
  · exact ht
  · exact hu

end InstrFrame

variable (s : State)

/-! ### Memory and stack -/

theorem advance_frame (n : Nat) : InstrFrame s (s.advance n) := .registers rfl rfl

theorem writeByte_frame (a : Addr) (v : Byte) : InstrFrame s (s.writeByte a v) := ⟨rfl, .write .refl a v⟩

theorem store8_frame (pl : Place) (v : Byte) : InstrFrame s (s.store8 pl v) := s.writeByte_frame _ v

theorem store16_frame (pl : Place) (v : Word) : InstrFrame s (s.store16 pl v) :=
  (s.writeByte_frame _ _).trans (writeByte_frame _ _ _)

theorem push8_frame (v : Byte) : InstrFrame s (s.push8 v) := ⟨rfl, .write .refl (bank0 s.sp) v⟩

theorem push16_frame (v : Word) : InstrFrame s (s.push16 v) := (s.push8_frame _).trans (push8_frame _ _)

theorem pushNew8_frame (v : Byte) : InstrFrame s (s.pushNew8 v) := ⟨rfl, .write .refl (bank0 s.sp) v⟩

theorem pushNew16_frame (v : Word) : InstrFrame s (s.pushNew16 v) := (s.pushNew8_frame _).trans (pushNew8_frame _ _)

theorem endNew_frame : InstrFrame s s.endNew := by
  rw [endNew_eq]
  exact .registers rfl rfl

theorem truncateIndex_frame : InstrFrame s s.truncateIndex := by
  rw [truncateIndex_eq]
  exact .registers rfl rfl

theorem loadP_frame (b : Byte) : InstrFrame s (s.loadP b) :=
  (truncateIndex_frame { s with p := s.p.ofPulled s.e b }).after_registers rfl rfl

/-- A store of either width. -/
theorem store_frame (narrow : Bool) (pl : Place) (b : Byte) (v : Word) :
    InstrFrame s (if narrow then s.store8 pl b else s.store16 pl v) :=
  .ite (s.store8_frame pl b) (s.store16_frame pl v)

/-- A push of either width. -/
theorem push_frame (narrow : Bool) (b : Byte) (v : Word) : InstrFrame s (if narrow then s.push8 b else s.push16 v) :=
  .ite (s.push8_frame b) (s.push16_frame v)

/-! ### Operations on an operand -/

/-- What a reading mnemonic does to its operand, PC already past the instruction (R138). -/
def readOp (s : State) (op : Mnemonic) (src : Src) : State :=
  match op, src with
  | .LDA, _ => s.lda src
  | .LDX, _ => s.ldx src
  | .LDY, _ => s.ldy src
  | .ADC, _ => s.adc src
  | .SBC, _ => s.sbc src
  | .AND, _ => s.andA src
  | .ORA, _ => s.ora src
  | .EOR, _ => s.eor src
  | .CMP, _ => s.cmp src
  | .CPX, _ => s.cpx src
  | .CPY, _ => s.cpy src
  | .BIT, .imm v => s.bitImm v
  | .BIT, .mem m => s.bitMem m
  | _, _ => s

/-- What a storing mnemonic does, PC already past the instruction (R138). -/
def writeOp (s : State) (op : Mnemonic) (m : MemMode) : State :=
  match op with
  | .STA => s.sta m
  | .STX => s.stx m
  | .STY => s.sty m
  | .STZ => s.stz m
  | _ => s

theorem readOp_frame (op : Mnemonic) (src : Src) : InstrFrame s (s.readOp op src) := by
  unfold readOp
  split
  case h_14 => exact .refl s
  all_goals exact .ite (.registers rfl rfl) (.registers rfl rfl)

theorem writeOp_frame (op : Mnemonic) (m : MemMode) : InstrFrame s (s.writeOp op m) := by
  unfold writeOp
  split
  case h_5 => exact .refl s
  all_goals exact s.store_frame _ _ _ _

theorem writeBack8_frame (pl : Place) (old new : Byte) : InstrFrame s (s.writeBack8 pl old new) :=
  .ite ((s.store8_frame pl old).trans (store8_frame _ pl new)) (s.store8_frame pl new)

theorem writeBack16_frame (pl : Place) (new : Word) : InstrFrame s (s.writeBack16 pl new) :=
  (s.writeByte_frame _ _).trans (writeByte_frame _ _ _)

theorem modifyMem_frame (f : RmwFn) (m : MemMode) : InstrFrame s (s.modifyMem f m) :=
  .ite ((s.writeBack8_frame _ _ _).then_registers rfl rfl) ((s.writeBack16_frame _ _).then_registers rfl rfl)

theorem modifyAcc_frame (f : RmwFn) : InstrFrame s (s.modifyAcc f) :=
  .ite (.registers rfl rfl) (.registers rfl rfl)

theorem branchIf_frame (cond : Bool) (r : Byte) : InstrFrame s (s.branchIf cond r) :=
  .ite (.registers rfl rfl) (.refl s)

/-! ### Operations without an operand in the sense of `View` -/

theorem stepX_frame (delta : Int) : InstrFrame s (s.stepX delta) := .ite (.registers rfl rfl) (.registers rfl rfl)

theorem stepY_frame (delta : Int) : InstrFrame s (s.stepY delta) := .ite (.registers rfl rfl) (.registers rfl rfl)

theorem pull16_frame : InstrFrame s s.pull16.2 := .registers rfl rfl

theorem pla_frame : InstrFrame s s.pla := .ite (.registers rfl rfl) (s.pull16_frame.then_registers rfl rfl)

theorem plx_frame : InstrFrame s s.plx := .ite (.registers rfl rfl) (s.pull16_frame.then_registers rfl rfl)

theorem ply_frame : InstrFrame s s.ply := .ite (.registers rfl rfl) (s.pull16_frame.then_registers rfl rfl)

theorem pld_frame : InstrFrame s s.pld := by
  unfold pld
  exact (endNew_frame _).after_registers rfl rfl

theorem plp_frame : InstrFrame s s.plp := (loadP_frame s.pull8.2 s.pull8.1).after_registers rfl rfl

theorem sep_frame (mask : Byte) : InstrFrame s (s.sep mask) :=
  (truncateIndex_frame { s with p := s.p.setBits s.e mask }).after_registers rfl rfl

theorem jsrIndexed_frame (a : Word) : InstrFrame s (s.jsrIndexed a) :=
  ((s.pushNew16_frame _).trans (endNew_frame _)).then_registers rfl rfl

theorem callLong_frame (a : Addr) : InstrFrame s (s.callLong a) :=
  (((s.pushNew8_frame _).trans (pushNew16_frame _ _)).trans (endNew_frame _)).then_registers rfl rfl

theorem rtl_frame : InstrFrame s s.rtl :=
  ((endNew_frame s.pullNew16.2.pullNew8.2).after_registers (s := s) rfl rfl).then_registers rfl rfl

theorem returnFromInterrupt_frame : InstrFrame s s.returnFromInterrupt := by
  have hload : InstrFrame s (s.pull8.2.loadP s.pull8.1) := s.plp_frame
  cases h : s.e with
  | true =>
    rw [returnFromInterrupt_emulation s h]
    exact hload.then_registers rfl rfl
  | false =>
    rw [returnFromInterrupt_native s h]
    exact hload.then_registers rfl rfl

theorem stackInterrupt_frame (k : Interrupt) (r : Word) : InstrFrame s (s.stackInterrupt k r) := by
  unfold stackInterrupt
  refine InstrFrame.trans ?_ ((push16_frame _ _).trans (push8_frame _ _))
  split
  · exact .refl s
  · exact s.push8_frame _

/-- A software interrupt clears no latch (R320). -/
theorem takeInterrupt_frame {k : Interrupt} (r : Word) (h : k.software = true) : InstrFrame s (s.takeInterrupt k r) := by
  have hnmi : k ≠ .nmi := by rintro rfl; cases h
  have habort : k ≠ .abort := by rintro rfl; cases h
  rw [takeInterrupt_eq, if_neg hnmi, if_neg habort]
  exact ⟨rfl, (s.stackInterrupt_frame k r).mem⟩

theorem blockStep_frame (delta : Int) (dst src : Byte) : InstrFrame s (s.blockStep delta dst src) := by
  have hwrite : InstrFrame s ({ s with dbr := dst }.writeByte (mkAddr dst s.y) (s.readByte (mkAddr src s.x))) :=
    (writeByte_frame { s with dbr := dst } _ _).after_registers rfl rfl
  unfold blockStep
  dsimp only
  split <;> exact hwrite.then_registers rfl rfl

end State

/-! ### `exec` by view (R138) -/

/-- A reading instruction moves PC past itself and does what its mnemonic does to its operand. -/
theorem exec_of_view_read {i : Instr} {op : Mnemonic} {src : Src} (h : i.view = .read op src) (s : State) :
    exec i s = .next ((s.advance i.length).readOp op src) := by
  cases i <;> cases h <;> rfl

/-- A storing instruction moves PC past itself and stores. -/
theorem exec_of_view_write {i : Instr} {op : Mnemonic} {m : MemMode} (h : i.view = .write op m) (s : State) :
    exec i s = .next ((s.advance i.length).writeOp op m) := by
  cases i <;> cases h <;> rfl

/-- A read-modify-write of memory moves PC past itself and modifies its operand. -/
theorem exec_of_view_modify {i : Instr} {op : Mnemonic} {m : MemMode} (h : i.view = .modify op m) (s : State) :
    exec i s = .next ((s.advance i.length).modifyMem (rmwOf op) m) := by
  cases i <;> cases h <;> rfl

/-- A read-modify-write of the accumulator moves PC past itself and modifies the accumulator. -/
theorem exec_of_view_acc {i : Instr} {op : Mnemonic} (h : i.view = .acc op) (s : State) :
    exec i s = .next ((s.advance i.length).modifyAcc (rmwOf op)) := by
  cases i <;> cases h <;> rfl

/-- A branch moves PC past itself and branches where its condition holds. -/
theorem exec_of_view_branch {i : Instr} {op : Mnemonic} {r : Byte} (h : i.view = .branch op r) (s : State) :
    exec i s = .next ((s.advance i.length).branchIf (Claims.branchTaken op s.p) r) := by
  cases i <;> cases h <;> rfl

open State

/-- The frame of an instruction that is its opcode alone. -/
theorem exec_implied_frame {i : Instr} {op : Mnemonic} {s t : State} (hv : i.view = .implied op)
    (h : exec i s = .next t) : InstrFrame s t := by
  have past : InstrFrame s (s.advance 1) := s.advance_frame 1
  cases i
  case clc | cld | cli | clv | sec | sed | sei | nop | wai | stp | xba | tcd | tdc | tsc | plb | rts =>
    cases h
    exact .registers rfl rfl
  case dex | inx =>
    cases h
    exact past.trans (stepX_frame _ _)
  case dey | iny =>
    cases h
    exact past.trans (stepY_frame _ _)
  case tax | tay | tsx | txa | txy | tya | tyx | tcs | txs | xce =>
    cases h
    exact .ite (.registers rfl rfl) (.registers rfl rfl)
  case pla =>
    cases h
    exact past.trans (pla_frame _)
  case plx =>
    cases h
    exact past.trans (plx_frame _)
  case ply =>
    cases h
    exact past.trans (ply_frame _)
  case pha | phx | phy =>
    cases h
    exact past.trans (push_frame _ _ _ _)
  case phb | phk | php =>
    cases h
    exact past.trans (push8_frame _ _)
  case phd =>
    cases h
    exact (past.trans (pushNew16_frame _ _)).trans (endNew_frame _)
  case pld =>
    cases h
    exact past.trans (pld_frame _)
  case plp =>
    cases h
    exact past.trans (plp_frame _)
  case rtl =>
    cases h
    exact s.rtl_frame
  case rti =>
    cases h
    exact past.trans (returnFromInterrupt_frame _)
  all_goals cases hv

/-- The frame of a jump, a call, a push of an operand, a trap, a block move, REP, SEP and opcode 42. -/
theorem exec_special_frame {i : Instr} {op : Mnemonic} {n : Nat} {s t : State} (hv : i.view = .special op n)
    (h : exec i s = .next t) : InstrFrame s t := by
  cases i
  case jmpAbs | jmpAbsInd | jmpAbsXInd | jmpLong | jml | brl | rep | reserved42 =>
    cases h
    exact .registers rfl rfl
  case jsrAbs =>
    cases h
    exact (s.push16_frame _).then_registers rfl rfl
  case jsrAbsXInd =>
    cases h
    exact s.jsrIndexed_frame _
  case jsl =>
    cases h
    exact s.callLong_frame _
  case pea | pei | per =>
    cases h
    exact ((s.advance_frame _).trans (pushNew16_frame _ _)).trans (endNew_frame _)
  case mvn | mvp =>
    cases h
    exact s.blockStep_frame _ _ _
  case sep =>
    cases h
    exact (s.advance_frame 2).trans (sep_frame _ _)
  case brk | cop =>
    cases h
    exact (s.advance_frame 2).trans (takeInterrupt_frame _ _ rfl)
  all_goals cases hv

/-- The frame of every instruction (R158, R171, R189, R223). -/
theorem exec_frame {i : Instr} {s t : State} (h : exec i s = .next t) : InstrFrame s t := by
  have past : InstrFrame s (s.advance i.length) := s.advance_frame i.length
  cases hv : i.view with
  | read op src =>
    cases (exec_of_view_read hv s).symm.trans h
    exact past.trans (readOp_frame _ op src)
  | write op m =>
    cases (exec_of_view_write hv s).symm.trans h
    exact past.trans (writeOp_frame _ op m)
  | modify op m =>
    cases (exec_of_view_modify hv s).symm.trans h
    exact past.trans (modifyMem_frame _ _ m)
  | acc op =>
    cases (exec_of_view_acc hv s).symm.trans h
    exact past.trans (modifyAcc_frame _ _)
  | branch op r =>
    cases (exec_of_view_branch hv s).symm.trans h
    exact past.trans (branchIf_frame _ _ r)
  | implied op => exact exec_implied_frame hv h
  | special op n => exact exec_special_frame hv h

end Sys2Proof.Machine
end

section
/-! PROOFS. What a step leaves alone: the parameters, the limits of the G65SC802 (R7, R61), and in every step but a reset the
note of M and X as the step found them (R45; log 28). -/

namespace Sys2Proof.Machine

open Sys2Proof

/-- `t` is within the limits of the part that `s` is within: the parameters stay, ABORT is latched only where the part has that
input, and memory changes by writes at addresses of the part (R7, R48, R61). -/
structure PartFrame (s t : State) : Prop where
  /-- The parameters stay. -/
  config : t.config = s.config
  /-- Only a part with an ABORT input latches one. -/
  abort : t.abortPending = true → s.abortPending = true ∨ s.hasAbort = true
  /-- Memory changes by writes alone. -/
  mem : WrittenFrom s.config.variant s.mem t.mem

/-- Besides, `t` has the note of M and X that `s` has. -/
structure BoundaryFrame (s t : State) : Prop extends PartFrame s t where
  /-- The note of M stays. -/
  lastM : t.lastM = s.lastM
  /-- The note of X stays. -/
  lastX : t.lastX = s.lastX

theorem PartFrame.trans {s t u : State} (h : PartFrame s t) (h' : PartFrame t u) : PartFrame s u where
  config := h'.config.trans h.config
  abort hu := by
    rcases h'.abort hu with ht | ht
    · exact h.abort ht
    · exact .inr (by simpa only [State.hasAbort, h.config] using ht)
  mem := h.mem.trans (h.config ▸ h'.mem)

namespace BoundaryFrame

variable {s t u : State}

theorem refl (s : State) : BoundaryFrame s s := ⟨⟨rfl, .inl, .refl⟩, rfl, rfl⟩

theorem trans (h : BoundaryFrame s t) (h' : BoundaryFrame t u) : BoundaryFrame s u :=
  ⟨h.toPartFrame.trans h'.toPartFrame, h'.lastM.trans h.lastM, h'.lastX.trans h.lastX⟩

end BoundaryFrame

namespace State

variable {s t : State}

/-- An instruction stays within the frame of a step. -/
theorem InstrFrame.boundary (h : InstrFrame s t) : BoundaryFrame s t where
  config := h.config
  abort ht := .inl ((congrArg (·.2.1) h.surroundings).symm.trans ht)
  mem := h.mem
  lastM := congrArg (·.2.2.2.2.2.1) h.surroundings
  lastX := congrArg (·.2.2.2.2.2.2) h.surroundings

theorem takeInterrupt_boundary (s : State) (k : Interrupt) (r : Word) : BoundaryFrame s (s.takeInterrupt k r) := by
  rw [takeInterrupt_eq]
  refine ⟨⟨rfl, fun h => .inl ?_, (s.stackInterrupt_frame k r).mem⟩, rfl, rfl⟩
  dsimp only at h
  split at h
  · cases h
  · exact h

/-- What an ABORT in time leaves of something within the frame is within it (R314). -/
theorem discard_boundary (h : BoundaryFrame s t) : BoundaryFrame s (s.discard t) := by
  rw [discard_eq]
  refine ⟨⟨rfl, .inl, ?_⟩, rfl, rfl⟩
  dsimp only
  split
  · exact h.mem
  · exact .refl

/-- What a late ABORT leaves of something within the frame is within it (R314). -/
theorem discardLate_boundary (h : BoundaryFrame s t) : BoundaryFrame s (s.discardLate t) := by
  have hmem := (discard_boundary h).mem
  rw [discardLate_eq]
  exact ⟨⟨rfl, .inl, hmem⟩, rfl, rfl⟩

theorem interrupted_boundary (s : State) (n : Nat) (k : Interrupt) (r : Word) :
    BoundaryFrame s (s.interrupted n k r) := by
  induction n generalizing s k with
  | zero => exact s.takeInterrupt_boundary k r
  | succ n ih => exact (discardLate_boundary (s.takeInterrupt_boundary k r)).trans (ih _ .abort)

/-- Only a part with an ABORT input latches one while it waits (R48). -/
theorem latchAbort_boundary (s : State) (inp : StepInput) : BoundaryFrame s (s.latchAbort inp) := by
  refine ⟨⟨rfl, fun h => ?_, .refl⟩, rfl, rfl⟩
  rcases (Bool.or_eq_true _ _).mp h with hlatch | hline
  · exact .inl hlatch
  · exact .inr (Bool.and_eq_true_iff.mp hline).1

theorem waitStep_boundary (s : State) (inp : StepInput) : BoundaryFrame s (s.waitStep inp) := by
  have hlatch : BoundaryFrame s (s.latchAbort inp) := s.latchAbort_boundary inp
  have hwoken : BoundaryFrame s { s.latchAbort inp with waiting := false } :=
    hlatch.trans ⟨⟨rfl, .inl, .refl⟩, rfl, rfl⟩
  unfold waitStep
  dsimp only
  split
  · split
    · exact hwoken.trans (interrupted_boundary ..)
    · split
      · exact hwoken.trans (interrupted_boundary ..)
      · split
        · exact hwoken.trans (interrupted_boundary ..)
        · exact hwoken
  · exact hlatch

theorem runUnaborted_boundary {late : Nat} (h : s.runUnaborted late = .next t) : BoundaryFrame s t := by
  obtain ⟨i, u, -, hexec, hrun⟩ := runUnaborted_cases s late
  have hu : BoundaryFrame s u := (exec_frame hexec).boundary
  rcases hrun with ⟨-, hrun⟩ | ⟨n, -, -, hrun⟩ <;> cases hrun.symm.trans h
  · exact hu
  · exact (discardLate_boundary hu).trans (interrupted_boundary ..)

/-- Without a reset, whatever the boundary does stays within the frame (R316, R317). -/
theorem boundary_frame {inp : StepInput} (hres : inp.res = false) (h : s.boundary inp = .next t) :
    BoundaryFrame s t := by
  rcases boundary_cases s inp with ⟨hr, -⟩ | ⟨-, hb⟩ | ⟨-, hb⟩ | ⟨-, i, u, -, hexec, hb⟩ | ⟨-, -, hb⟩ |
    ⟨-, -, -, hb⟩ | ⟨-, hb⟩
  · simp [hres] at hr
  · cases hb.symm.trans h
    exact .refl s
  · cases hb.symm.trans h
    exact s.waitStep_boundary inp
  · cases hb.symm.trans h
    exact (discard_boundary (exec_frame hexec).boundary).trans (interrupted_boundary ..)
  · cases hb.symm.trans h
    exact interrupted_boundary ..
  · cases hb.symm.trans h
    exact interrupted_boundary ..
  · exact runUnaborted_boundary (hb.symm.trans h)

theorem boundary_of_res {inp : StepInput} (hres : inp.res = true) : s.boundary inp = .next s.resetSequence := by
  simp [boundary, hres]

theorem applyBusWrites_written (s : State) (ws : List (Addr × Byte)) :
    WrittenFrom s.config.variant s.mem (s.applyBusWrites ws).mem := by
  induction ws generalizing s with
  | nil => exact .refl
  | cons w rest ih => exact (WrittenFrom.write .refl w.1 w.2).trans (ih (s.writeByte w.1 w.2))

/-- What happens between two steps stays within the limits of the part. -/
theorem takeEvents_part (s : State) (inp : StepInput) : PartFrame s (s.takeEvents inp) := by
  rw [takeEvents_eq]
  exact ⟨rfl, .inl, applyBusWrites_written s.enterStep _⟩

end State

open State

/-- Every step stays within the limits of the part (R7, R61). -/
theorem step_part {s t : State} (h : step s = .next t) : PartFrame s t := by
  rw [step_eq] at h
  refine (takeEvents_part s s.input).trans ?_
  cases hres : s.input.res with
  | false => exact (boundary_frame hres h).toPartFrame
  | true =>
    cases (boundary_of_res hres).symm.trans h
    exact ⟨rfl, nofun, .refl⟩

/-- A step without reset notes M and X as it found them (R45; log 28). -/
theorem step_notes {s t : State} (h : step s = .next t) (hres : s.input.res = false) :
    t.lastM = s.p.m ∧ t.lastX = s.p.x := by
  rw [step_eq, takeEvents_eq] at h
  have hframe := boundary_frame hres h
  exact ⟨hframe.lastM, hframe.lastX⟩

end Sys2Proof.Machine

namespace Sys2Proof.Claims

open Sys2Proof Sys2Proof.Machine

/-- No address above 16 bits is used. -/
def Below64K (m : Memory) : Prop := ∀ cell ∈ m, cell.1 < 2 ^ 16

/-- A byte write on the G65SC802 is at an address of 16 bits (R61). -/
theorem Below64K.write {m : Memory} (h : Below64K m) (a : Addr) (b : Byte) :
    Below64K (m.write (physAddr .g65sc802 a) b) := by
  intro cell hcell
  unfold Memory.write at hcell
  split at hcell
  · exact h cell (List.mem_filter.mp hcell).1
  · rcases Memory.mem_insert hcell with rfl | hold
    · exact Nat.mod_lt _ (by decide)
    · exact h cell hold

/-- Whatever stays within the limits of the part keeps those of the G65SC802. -/
theorem PartLimits.of_frame {s t : State} (hs : PartLimits s) (h : PartFrame s t) : PartLimits t := by
  intro hpart
  rw [h.config] at hpart
  obtain ⟨hlatch, hmem⟩ : s.abortPending = false ∧ Below64K s.mem := hs hpart
  have hnone : s.hasAbort = false := by simp [State.hasAbort, hpart]
  have habort : ¬ t.abortPending = true := fun ht => by simpa [hlatch, hnone] using h.abort ht
  have hwritten : WrittenFrom .g65sc802 s.mem t.mem := hpart ▸ h.mem
  exact ⟨Bool.eq_false_of_not_eq_true habort, hwritten.keeps (fun _ a b hm => hm.write a b) hmem⟩

end Sys2Proof.Claims

namespace Sys2Proof

open Sys2Proof.Machine Sys2Proof.Claims

/-- Settles O9: every part of a step stays within the limits of the part, and the G65SC802's follow. -/
theorem stepKeepsPartLimits : Obligations.StepKeepsPartLimits :=
  fun _ _ hs hstep => hs.of_frame (step_part hstep)

end Sys2Proof
end

section
/-! PROOFS. The status outputs: E and M/X in the cycles of a step (R45; log 27, log 28). -/

namespace Sys2Proof.Machine

open Sys2Proof

namespace State

/-- Each cycle shows the pins of its own access at its own place. -/
theorem cyclesFrom_pins {s : State} {mx : Nat → Bool × Bool} {m : Memory} {n k : Nat} {xs : List Access} {c : BusCycle}
    (h : (s.cyclesFrom mx m n xs)[k]? = some c) : ∃ x, c.pins = s.accessPins (mx (n + k)) x := by
  induction xs generalizing m n k with
  | nil => simp [cyclesFrom] at h
  | cons x rest ih =>
    cases k with
    | zero =>
      cases h
      exact ⟨x, rfl⟩
    | succ k =>
      obtain ⟨y, hy⟩ := ih h
      exact ⟨y, by rw [hy, Nat.add_right_comm, Nat.add_assoc]⟩

/-- The cycles of a reset step are those of the state it leaves, with M/X = 1 (R351). -/
theorem stepCycles_of_res {s : State} (h : s.input.res = true) :
    s.stepCycles = (s.takeEvents s.input).resetSequence.cyclesFrom (fun _ => (true, true)) (s.takeEvents s.input).mem 0
      s.stepAccesses := by
  simp [stepCycles, h]

/-- The cycles of any other step are those of the state after the events between the steps. -/
theorem stepCycles_of_no_res {s : State} (h : s.input.res = false) :
    s.stepCycles = (s.takeEvents s.input).cyclesFrom (fun n => s.mxLevels (s.mxInvalid n) n) (s.takeEvents s.input).mem 0
      s.stepAccesses := by
  simp [stepCycles, h]

@[simp] theorem takeEvents_config (s : State) (inp : StepInput) : (s.takeEvents inp).config = s.config := by
  rw [takeEvents_eq]

@[simp] theorem takeEvents_e (s : State) (inp : StepInput) : (s.takeEvents inp).e = s.e := by
  rw [takeEvents_eq]

@[simp] theorem takeEvents_m (s : State) (inp : StepInput) : (s.takeEvents inp).p.m = s.p.m := by
  rw [takeEvents_eq]

@[simp] theorem takeEvents_x (s : State) (inp : StepInput) : (s.takeEvents inp).p.x = s.p.x := by
  rw [takeEvents_eq]

/-- M or X counts as just changed when it is not as noted (R45; log 28). -/
theorem mxJustChanged_iff (s : State) : s.mxJustChanged = true ↔ s.lastM ≠ s.p.m ∨ s.lastX ≠ s.p.x := by
  simp [mxJustChanged]

theorem mxJustChanged_eq_false {s : State} (hm : s.lastM = s.p.m) (hx : s.lastX = s.p.x) : s.mxJustChanged = false := by
  simp [mxJustChanged, hm, hx]

/-- A step that leaves M and X as they were changes neither. -/
theorem changesMX_eq_false {s t : State} (hstep : step s = .next t) (hm : t.p.m = s.p.m) (hx : t.p.x = s.p.x) :
    (s.takeEvents s.input).changesMX s.input = false := by
  rw [step_eq] at hstep
  simp [changesMX, hstep, hm, hx]

/-- M/X is valid in the first access where M and X are as noted, in the second always, and from the third on where the step
leaves M and X as they were (R45, U5; log 28). -/
theorem mxInvalid_eq_false {s t : State} {n : Nat} (hstep : step s = .next t)
    (hfirst : n = 0 → s.lastM = s.p.m ∧ s.lastX = s.p.x) (hlater : 2 ≤ n → t.p.m = s.p.m ∧ t.p.x = s.p.x) :
    s.mxInvalid n = false := by
  have first : (decide (n = 0) && s.mxJustChanged) = false := by
    by_cases hn : n = 0
    · obtain ⟨hm, hx⟩ := hfirst hn
      simp [mxJustChanged_eq_false hm hx]
    · simp [hn]
  have later : (decide (2 ≤ n) && (s.takeEvents s.input).changesMX s.input) = false := by
    by_cases hn : 2 ≤ n
    · obtain ⟨hm, hx⟩ := hlater hn
      simp [changesMX_eq_false hstep hm hx]
    · simp [hn]
  simp [mxInvalid, first, later]

end State

end Sys2Proof.Machine

namespace Sys2Proof.Claims

open Sys2Proof Sys2Proof.Machine

/-- A reset step shows E = 1 and M/X = 1 in every cycle (R351). -/
theorem status_of_res {s : State} {n : Nat} {c : BusCycle} (hpart : s.config.variant = .g65sc816)
    (hc : s.stepCycles[n]? = some c) (hres : s.input.res = true) :
    c.pins.e = some true ∧ c.pins.m = some true ∧ c.pins.x = some true := by
  rw [State.stepCycles_of_res hres] at hc
  obtain ⟨x, hx⟩ := State.cyclesFrom_pins hc
  have hpart' : (s.takeEvents s.input).resetSequence.config.variant = .g65sc816 := by
    rw [(State.resetSequence_keeps _).2.1, State.takeEvents_config, hpart]
  rw [hx, accessPins_816 hpart']
  exact ⟨rfl, rfl, rfl⟩

/-- Any other step shows E as it was before it, and M/X at the levels of the access (R45). -/
theorem status_of_no_res {s : State} {n : Nat} {c : BusCycle} (hpart : s.config.variant = .g65sc816)
    (hc : s.stepCycles[n]? = some c) (hres : s.input.res = false) :
    c.pins.e = some s.e ∧ c.pins.m = some (s.mxLevels (s.mxInvalid n) n).1 ∧
      c.pins.x = some (s.mxLevels (s.mxInvalid n) n).2 := by
  rw [State.stepCycles_of_no_res hres] at hc
  obtain ⟨x, hx⟩ := State.cyclesFrom_pins hc
  rw [Nat.zero_add, accessPins_816 (by rw [State.takeEvents_config, hpart])] at hx
  simp [hx]

/-- After a reset step nothing counts as just changed (R351). -/
theorem mxJustChanged_after_res {s t : State} (h : step s = .next t) (hres : s.input.res = true) :
    t.mxJustChanged = false := by
  rw [step_eq, State.boundary_of_res hres] at h
  cases h
  exact State.resetSequence_mxJustChanged _

/-- After any other step M or X counts as just changed exactly when the step changed it. -/
theorem mxJustChanged_after_step {s t : State} (h : step s = .next t) (hres : s.input.res = false) :
    t.mxJustChanged = true ↔ t.p.m ≠ s.p.m ∨ t.p.x ≠ s.p.x := by
  obtain ⟨hm, hx⟩ := step_notes h hres
  rw [State.mxJustChanged_iff, hm, hx, ne_comm, @ne_comm _ s.p.x]

end Sys2Proof.Claims

namespace Sys2Proof

open Sys2Proof.Machine Sys2Proof.Claims

/-- Settles O25: every cycle shows the pins of one access, and the frame of a step keeps the note of M and X. -/
theorem statusOutputs : Obligations.StatusOutputs := by
  refine ⟨?cycles, ?part816, ?part802, ?noted⟩
  case cycles =>
    intro s n c hpart hc
    refine ⟨status_of_res hpart hc, fun hres => ?_⟩
    obtain ⟨he, hm, hx⟩ := status_of_no_res hpart hc hres
    refine ⟨he, fun t hstep hfirst hlater => ?_⟩
    rw [State.mxInvalid_eq_false hstep hfirst hlater, State.mxLevels_valid] at hm hx
    exact ⟨hm, hx⟩
  case part816 =>
    intro s hpart
    refine ⟨by simp [State.pinE, State.hasStatusPins, hpart], fun hm hx => ?_⟩
    simp [State.pinM, State.pinX, State.hasAbort, hpart, State.mxJustChanged_eq_false hm hx]
  case part802 =>
    intro s hpart
    simp [State.pinM, State.pinX, State.pinE, State.hasAbort, State.hasStatusPins, hpart]
  case noted => exact fun s t h => ⟨mxJustChanged_after_res h, mxJustChanged_after_step h⟩

end Sys2Proof
end

section
/-! PROOFS. What each mnemonic leaves alone (R24 to R54): a state is blanked in the fields the mnemonic may write, and an
instruction keeps the rest. One rule per operation, then one for `exec`. -/

namespace Sys2Proof

open Sys2Proof.Machine Sys2Proof.Claims

/-- The mnemonics that can change C (R21). -/
def accumulatorMnemonics : List Mnemonic :=
  [.LDA, .ADC, .SBC, .AND, .ORA, .EOR, .ASL, .LSR, .ROL, .ROR, .INC, .DEC, .PLA, .TXA, .TYA, .TDC, .TSC, .XBA, .MVN, .MVP]

/-- The mnemonics that can change X (R22). -/
def indexXMnemonics : List Mnemonic :=
  [.LDX, .DEX, .INX, .PLX, .TAX, .TSX, .TYX, .MVN, .MVP, .PLP, .RTI, .SEP, .XCE]

/-- The mnemonics that can change Y (R22). -/
def indexYMnemonics : List Mnemonic := [.LDY, .DEY, .INY, .PLY, .TAY, .TXY, .MVN, .MVP, .PLP, .RTI, .SEP, .XCE]

/-- The mnemonics that can change S (R23, R223). -/
def stackMnemonics : List Mnemonic :=
  [.PEA, .PEI, .PER, .PHA, .PHB, .PHD, .PHK, .PHP, .PHX, .PHY, .PLA, .PLB, .PLD, .PLP, .PLX, .PLY, .TCS, .TXS, .XCE, .JSR,
    .JSL, .RTS, .RTL, .RTI, .BRK, .COP]

/-- The mnemonics of read-modify-write (R180). -/
def modifyMnemonics : List Mnemonic := [.ASL, .LSR, .ROL, .ROR, .INC, .DEC, .TRB, .TSB]

namespace Machine

/-- P with every flag blanked that `op` can change (R36 to R43). -/
def Status.unwritten (op : Mnemonic) (p : Status) : Status where
  n := if op ∈ resultMnemonics ++ [.LSR, .BIT, .PLP, .RTI, .REP, .SEP] then false else p.n
  v := if op ∈ [.ADC, .SBC, .BIT, .CLV, .PLP, .RTI, .REP, .SEP] then false else p.v
  m := if op ∈ [.PLP, .RTI, .REP, .SEP, .XCE] then false else p.m
  x := if op ∈ [.PLP, .RTI, .REP, .SEP, .XCE] then false else p.x
  d := if op ∈ [.SED, .CLD, .PLP, .RTI, .REP, .SEP, .BRK, .COP] then false else p.d
  i := if op ∈ [.SEI, .CLI, .PLP, .RTI, .REP, .SEP, .BRK, .COP] then false else p.i
  z := if op ∈ resultMnemonics ++ [.LSR, .BIT, .TRB, .TSB, .PLP, .RTI, .REP, .SEP] then false else p.z
  c := if op ∈ [.ADC, .SBC, .ASL, .LSR, .ROL, .ROR, .CMP, .CPX, .CPY, .CLC, .SEC, .PLP, .RTI, .REP, .SEP, .XCE] then false
    else p.c

namespace State

/-- The state with PC, memory and every field blanked that `op` can change: two states agree on it exactly in what `op` has
to leave alone. -/
def unwritten (op : Mnemonic) (s : State) : State :=
  { s with
    pc := 0
    mem := []
    c := if op ∈ accumulatorMnemonics then 0 else s.c
    x := if op ∈ indexXMnemonics then 0 else s.x
    y := if op ∈ indexYMnemonics then 0 else s.y
    sp := if op ∈ stackMnemonics then 0 else s.sp
    d := if op ∈ [.TCD, .PLD] then 0 else s.d
    dbr := if op ∈ [.PLB, .MVN, .MVP] then 0 else s.dbr
    pbr := if op ∈ [.JMP, .JML, .JSL, .RTL, .RTI, .BRK, .COP] then 0 else s.pbr
    p := s.p.unwritten op
    e := if op = .XCE then false else s.e
    waiting := if op = .WAI then false else s.waiting
    stopped := if op = .STP then false else s.stopped }

variable {s t u : State} {op : Mnemonic}

/-- An operation that chooses by a width or a condition. -/
theorem unwritten_ite {c : Prop} [Decidable c] (ht : t.unwritten op = s.unwritten op)
    (hu : u.unwritten op = s.unwritten op) : (if c then t else u).unwritten op = s.unwritten op := by
  split
  · exact ht
  · exact hu

theorem unwritten_of_p {m : Memory} {q : Status} (hp : q.unwritten op = s.p.unwritten op) :
    { s with mem := m, p := q }.unwritten op = s.unwritten op := by
  simp only [unwritten, hp]

theorem unwritten_of_pc (pc : Word) : { s with pc := pc }.unwritten op = s.unwritten op := rfl

theorem unwritten_of_c (c : Word) (hop : op ∈ accumulatorMnemonics) : { s with c := c }.unwritten op = s.unwritten op := by
  simp only [unwritten, hop, if_true]

theorem unwritten_of_x (x : Word) (hop : op ∈ indexXMnemonics) : { s with x := x }.unwritten op = s.unwritten op := by
  simp only [unwritten, hop, if_true]

theorem unwritten_of_y (y : Word) (hop : op ∈ indexYMnemonics) : { s with y := y }.unwritten op = s.unwritten op := by
  simp only [unwritten, hop, if_true]

theorem unwritten_of_sp (sp : Word) (hop : op ∈ stackMnemonics) : { s with sp := sp }.unwritten op = s.unwritten op := by
  simp only [unwritten, hop, if_true]

theorem setNZ_unwritten {w : Nat} (s : State) (r : BitVec w) (hop : op ∈ resultMnemonics) :
    (s.setNZ r).unwritten op = s.unwritten op := by
  refine unwritten_of_p (s := s) (m := s.mem) ?_
  simp only [Status.unwritten, Status.setNZ, List.mem_append, hop, true_or, if_true]

variable (s)

/-! ### Stack -/

theorem push8_unwritten (v : Byte) (hop : op ∈ stackMnemonics) : (s.push8 v).unwritten op = s.unwritten op :=
  unwritten_of_sp (s := s.writeByte (bank0 s.sp) v) s.spAfterPush hop

theorem push16_unwritten (v : Word) (hop : op ∈ stackMnemonics) : (s.push16 v).unwritten op = s.unwritten op :=
  (push8_unwritten _ _ hop).trans (s.push8_unwritten _ hop)

theorem pushNew8_unwritten (v : Byte) (hop : op ∈ stackMnemonics) : (s.pushNew8 v).unwritten op = s.unwritten op :=
  unwritten_of_sp (s := s.writeByte (bank0 s.sp) v) (s.sp - 1) hop

theorem pushNew16_unwritten (v : Word) (hop : op ∈ stackMnemonics) : (s.pushNew16 v).unwritten op = s.unwritten op :=
  (pushNew8_unwritten _ _ hop).trans (s.pushNew8_unwritten _ hop)

theorem endNew_unwritten (hop : op ∈ stackMnemonics) : s.endNew.unwritten op = s.unwritten op :=
  unwritten_ite (unwritten_of_sp _ hop) rfl

/-- A push of either width. -/
theorem push_unwritten (narrow : Bool) (b : Byte) (v : Word) (hop : op ∈ stackMnemonics) :
    (if narrow then s.push8 b else s.push16 v).unwritten op = s.unwritten op :=
  unwritten_ite (s.push8_unwritten b hop) (s.push16_unwritten v hop)

theorem pla_unwritten : s.pla.unwritten .PLA = s.unwritten .PLA := unwritten_ite rfl rfl

theorem plx_unwritten : s.plx.unwritten .PLX = s.unwritten .PLX := unwritten_ite rfl rfl

theorem ply_unwritten : s.ply.unwritten .PLY = s.unwritten .PLY := unwritten_ite rfl rfl

theorem pld_unwritten : s.pld.unwritten .PLD = s.unwritten .PLD := (endNew_unwritten _ (by decide)).trans rfl

theorem loadP_unwritten (b : Byte) (hop : op ∈ [.PLP, .RTI]) : (s.loadP b).unwritten op = s.unwritten op := by
  rw [loadP_eq, truncateIndex_eq]
  simp only [List.mem_cons, List.not_mem_nil, or_false] at hop
  rcases hop with rfl | rfl <;> rfl

theorem plp_unwritten : s.plp.unwritten .PLP = s.unwritten .PLP := loadP_unwritten s.pull8.2 _ (by decide)

/-! ### Operations on an operand -/

theorem readOp_unwritten (op : Mnemonic) (src : Src) : (s.readOp op src).unwritten op = s.unwritten op := by
  unfold readOp
  split
  case h_14 => rfl
  all_goals exact unwritten_ite rfl rfl

/-- A store of either width writes memory alone. -/
theorem store_unwritten (narrow : Bool) (pl : Place) (b : Byte) (v : Word) :
    (if narrow then s.store8 pl b else s.store16 pl v).unwritten op = s.unwritten op :=
  unwritten_ite rfl rfl

theorem writeOp_unwritten (op : Mnemonic) (m : MemMode) : (s.writeOp op m).unwritten op = s.unwritten op := by
  unfold writeOp
  split
  case h_5 => rfl
  all_goals exact s.store_unwritten _ _ _ _

/-- The flags a read-modify-write function leaves alone (R181 to R188). -/
theorem rmwOf_unwritten (hop : op ∈ modifyMnemonics) (w : Nat) (a : BitVec w) (p : Status) (v : BitVec w) :
    (rmwOf op w a p v).2.unwritten op = p.unwritten op := by
  simp only [modifyMnemonics, List.mem_cons, List.not_mem_nil, or_false] at hop
  rcases hop with rfl | rfl | rfl | rfl | rfl | rfl | rfl | rfl <;> rfl

/-- P after a read-modify-write of memory is what its function says at some width (R180). -/
theorem modifyMem_p (f : RmwFn) (m : MemMode) : ∃ w a v, (s.modifyMem f m).p = (f w a s.p v).2 := by
  unfold modifyMem
  split
  · exact ⟨8, _, _, rfl⟩
  · exact ⟨16, _, _, rfl⟩

/-- P after a read-modify-write of the accumulator, likewise. -/
theorem modifyAcc_p (f : RmwFn) : ∃ w a v, (s.modifyAcc f).p = (f w a s.p v).2 := by
  unfold modifyAcc
  split
  · exact ⟨8, _, _, rfl⟩
  · exact ⟨16, _, _, rfl⟩

theorem modifyMem_unwritten (m : MemMode) (hop : op ∈ modifyMnemonics) :
    (s.modifyMem (rmwOf op) m).unwritten op = s.unwritten op := by
  obtain ⟨w, a, v, hp⟩ := s.modifyMem_p (rmwOf op) m
  rw [modifyMem_eq, hp]
  exact unwritten_of_p (rmwOf_unwritten hop w a s.p v)

theorem modifyAcc_unwritten (hop : op ∈ modifyMnemonics) (hc : op ∈ accumulatorMnemonics) :
    (s.modifyAcc (rmwOf op)).unwritten op = s.unwritten op := by
  obtain ⟨w, a, v, hp⟩ := s.modifyAcc_p (rmwOf op)
  rw [modifyAcc_eq, hp]
  exact (unwritten_of_c _ hc).trans (unwritten_of_p (m := s.mem) (rmwOf_unwritten hop w a s.p v))

theorem branchIf_unwritten (op : Mnemonic) (cond : Bool) (r : Byte) : (s.branchIf cond r).unwritten op = s.unwritten op :=
  unwritten_ite rfl rfl

/-! ### Results in a register -/

/-- A result in the accumulator, at either width (R21). -/
theorem accumulator_unwritten {b r : Byte} {v q : Word} (hc : op ∈ accumulatorMnemonics) (hr : op ∈ resultMnemonics) :
    (if s.m8 then (s.setA b).setNZ r else (s.setC v).setNZ q).unwritten op = s.unwritten op :=
  unwritten_ite ((setNZ_unwritten _ _ hr).trans (unwritten_of_c _ hc)) ((setNZ_unwritten _ _ hr).trans (unwritten_of_c _ hc))

/-- A result in X, at either width (R22). -/
theorem indexX_unwritten {b r : Byte} {v q : Word} (hx : op ∈ indexXMnemonics) (hr : op ∈ resultMnemonics) :
    (if s.x8 then (s.setX8 b).setNZ r else { s with x := v }.setNZ q).unwritten op = s.unwritten op :=
  unwritten_ite ((setNZ_unwritten _ _ hr).trans (unwritten_of_x _ hx)) ((setNZ_unwritten _ _ hr).trans (unwritten_of_x _ hx))

/-- A result in Y, at either width (R22). -/
theorem indexY_unwritten {b r : Byte} {v q : Word} (hy : op ∈ indexYMnemonics) (hr : op ∈ resultMnemonics) :
    (if s.x8 then (s.setY8 b).setNZ r else { s with y := v }.setNZ q).unwritten op = s.unwritten op :=
  unwritten_ite ((setNZ_unwritten _ _ hr).trans (unwritten_of_y _ hy)) ((setNZ_unwritten _ _ hr).trans (unwritten_of_y _ hy))

theorem toSp_unwritten (v : Word) (hop : op ∈ stackMnemonics) : (s.toSp v).unwritten op = s.unwritten op :=
  unwritten_ite (unwritten_of_sp _ hop) (unwritten_of_sp _ hop)

theorem xce_unwritten : s.xce.unwritten .XCE = s.unwritten .XCE := unwritten_ite rfl rfl

/-! ### Jumps, interrupts, block moves -/

theorem jsrIndexed_unwritten (a : Word) : (s.jsrIndexed a).unwritten .JSR = s.unwritten .JSR :=
  (endNew_unwritten _ (by decide)).trans (s.pushNew16_unwritten _ (by decide))

theorem callLong_unwritten (a : Addr) : (s.callLong a).unwritten .JSL = s.unwritten .JSL :=
  calc (s.callLong a).unwritten .JSL
    _ = ((s.pushNew8 s.pbr).pushNew16 (s.pc + 3)).endNew.unwritten .JSL := rfl
    _ = ((s.pushNew8 s.pbr).pushNew16 (s.pc + 3)).unwritten .JSL := endNew_unwritten _ (by decide)
    _ = (s.pushNew8 s.pbr).unwritten .JSL := pushNew16_unwritten _ _ (by decide)
    _ = s.unwritten .JSL := pushNew8_unwritten _ _ (by decide)

theorem rtl_unwritten : s.rtl.unwritten .RTL = s.unwritten .RTL :=
  calc s.rtl.unwritten .RTL
    _ = s.pullNew16.2.pullNew8.2.endNew.unwritten .RTL := rfl
    _ = s.pullNew16.2.pullNew8.2.unwritten .RTL := endNew_unwritten _ (by decide)
    _ = s.unwritten .RTL := rfl

theorem returnFromInterrupt_unwritten : s.returnFromInterrupt.unwritten .RTI = s.unwritten .RTI := by
  have hload : (s.pull8.2.loadP s.pull8.1).unwritten .RTI = s.unwritten .RTI := loadP_unwritten s.pull8.2 _ (by decide)
  cases h : s.e with
  | true =>
    rw [returnFromInterrupt_emulation s h]
    exact hload
  | false =>
    rw [returnFromInterrupt_native s h]
    exact hload

theorem takeInterrupt_unwritten {k : Interrupt} (r : Word) (hk : k.software = true) (hop : op ∈ [.BRK, .COP]) :
    (s.takeInterrupt k r).unwritten op = s.unwritten op := by
  have hnmi : k ≠ .nmi := by rintro rfl; cases hk
  have habort : k ≠ .abort := by rintro rfl; cases hk
  rw [takeInterrupt_eq, if_neg hnmi, if_neg habort]
  simp only [List.mem_cons, List.not_mem_nil, or_false] at hop
  rcases hop with rfl | rfl <;> rfl

theorem blockStep_unwritten (delta : Int) (dst src : Byte) (hop : op ∈ [.MVN, .MVP]) :
    (s.blockStep delta dst src).unwritten op = s.unwritten op := by
  simp only [List.mem_cons, List.not_mem_nil, or_false] at hop
  unfold blockStep
  dsimp only
  rcases hop with rfl | rfl <;> split <;> rfl

theorem sep_unwritten (mask : Byte) : (s.sep mask).unwritten .SEP = s.unwritten .SEP := by
  rw [sep, truncateIndex_eq]
  rfl

end State

/-! ### `exec` -/

theorem mem_of_view_modify {i : Instr} {op : Mnemonic} {m : MemMode} (h : i.view = .modify op m) :
    op ∈ modifyMnemonics := by
  cases i <;> cases h <;> decide

theorem mem_of_view_acc {i : Instr} {op : Mnemonic} (h : i.view = .acc op) :
    op ∈ modifyMnemonics ∧ op ∈ accumulatorMnemonics := by
  cases i <;> cases h <;> decide

open State

/-- What an instruction that is its opcode alone leaves alone. -/
theorem exec_implied_unwritten {i : Instr} {op : Mnemonic} {s t : State} (hv : i.view = .implied op)
    (h : exec i s = .next t) : t.unwritten op = s.unwritten op := by
  cases i <;> cases hv <;> cases h
  case clc | cld | cli | clv | sec | sed | sei | nop | wai | stp | xba | tcd | tdc | tsc | plb | rts => rfl
  case dex | inx | tax | tsx | tyx => exact indexX_unwritten (s.advance 1) (by decide) (by decide)
  case dey | iny | tay | txy => exact indexY_unwritten (s.advance 1) (by decide) (by decide)
  case txa | tya => exact accumulator_unwritten (s.advance 1) (by decide) (by decide)
  case tcs | txs => exact toSp_unwritten (s.advance 1) _ (by decide)
  case xce => exact xce_unwritten (s.advance 1)
  case pha | phx | phy => exact push_unwritten (s.advance 1) _ _ _ (by decide)
  case phb | phk | php => exact push8_unwritten (s.advance 1) _ (by decide)
  case phd => exact (endNew_unwritten _ (by decide)).trans (pushNew16_unwritten (s.advance 1) _ (by decide))
  case pla => exact pla_unwritten (s.advance 1)
  case plx => exact plx_unwritten (s.advance 1)
  case ply => exact ply_unwritten (s.advance 1)
  case pld => exact pld_unwritten (s.advance 1)
  case plp => exact plp_unwritten (s.advance 1)
  case rtl => exact s.rtl_unwritten
  case rti => exact returnFromInterrupt_unwritten (s.advance 1)

/-- What a jump, a call, a push of an operand, a trap, a block move, REP, SEP and opcode 42 leave alone. -/
theorem exec_special_unwritten {i : Instr} {op : Mnemonic} {n : Nat} {s t : State} (hv : i.view = .special op n)
    (h : exec i s = .next t) : t.unwritten op = s.unwritten op := by
  cases i <;> cases hv <;> cases h
  case jmpAbs | jmpAbsInd | jmpAbsXInd | jmpLong | jml | brl | rep | reserved42 => rfl
  case jsrAbs => exact (unwritten_of_pc _).trans (s.push16_unwritten _ (by decide))
  case jsrAbsXInd => exact s.jsrIndexed_unwritten _
  case jsl => exact s.callLong_unwritten _
  case pea | pei | per =>
    exact (endNew_unwritten _ (by decide)).trans (pushNew16_unwritten (s.advance _) _ (by decide))
  case mvn | mvp => exact s.blockStep_unwritten _ _ _ (by decide)
  case sep => exact sep_unwritten (s.advance 2) _
  case brk | cop => exact takeInterrupt_unwritten (s.advance 2) _ rfl (by decide)

/-- Every instruction keeps what its mnemonic has to leave alone (R24 to R54). -/
theorem exec_unwritten {i : Instr} {s t : State} (h : exec i s = .next t) :
    t.unwritten i.mnemonic = s.unwritten i.mnemonic := by
  unfold Instr.mnemonic
  cases hv : i.view with
  | read op src =>
    cases (exec_of_view_read hv s).symm.trans h
    exact readOp_unwritten (s.advance i.length) op src
  | write op m =>
    cases (exec_of_view_write hv s).symm.trans h
    exact writeOp_unwritten (s.advance i.length) op m
  | modify op m =>
    cases (exec_of_view_modify hv s).symm.trans h
    exact modifyMem_unwritten (s.advance i.length) m (mem_of_view_modify hv)
  | acc op =>
    cases (exec_of_view_acc hv s).symm.trans h
    obtain ⟨hop, hc⟩ := mem_of_view_acc hv
    exact modifyAcc_unwritten (s.advance i.length) hop hc
  | branch op r =>
    cases (exec_of_view_branch hv s).symm.trans h
    exact branchIf_unwritten (s.advance i.length) op _ r
  | implied op => exact exec_implied_unwritten hv h
  | special op n => exact exec_special_unwritten hv h

/-! ### From the blanked state to the single field -/

/-- Where a field differs and the blanked states do not, it was blanked. -/
theorem blanked_of_ne {α : Type} {p : Prop} [Decidable p] {blank a b : α}
    (h : (if p then blank else a) = if p then blank else b) (hne : a ≠ b) : p := by
  by_contra hp
  rw [if_neg hp, if_neg hp] at h
  exact hne h

theorem eq_xce_of_mnemonic {i : Instr} (h : i.mnemonic = .XCE) : i = .xce := by
  cases i
  case xce => rfl
  all_goals cases h

theorem eq_wai_of_mnemonic {i : Instr} (h : i.mnemonic = .WAI) : i = .wai := by
  cases i
  case wai => rfl
  all_goals cases h

theorem eq_stp_of_mnemonic {i : Instr} (h : i.mnemonic = .STP) : i = .stp := by
  cases i
  case stp => rfl
  all_goals cases h

/-- Only XCE changes E (R33). -/
theorem eq_xce_of_exec_e_ne {i : Instr} {s t : State} (h : exec i s = .next t) (he : t.e ≠ s.e) : i = .xce :=
  eq_xce_of_mnemonic (blanked_of_ne (congrArg (·.e) (exec_unwritten h)) he)

end Machine

/-- Settles O20: a field that differs was blanked for the instruction's mnemonic, and the frame keeps the rest. -/
theorem registerWriters : Obligations.RegisterWriters := by
  intro i s t h
  have hkeep : t.unwritten i.mnemonic = s.unwritten i.mnemonic := exec_unwritten h
  have hp : t.p.unwritten i.mnemonic = s.p.unwritten i.mnemonic := congrArg (·.p) hkeep
  refine ⟨blanked_of_ne (congrArg (·.d) hkeep), blanked_of_ne (congrArg (·.dbr) hkeep),
    blanked_of_ne (congrArg (·.x) hkeep), blanked_of_ne (congrArg (·.y) hkeep),
    blanked_of_ne (congrArg (·.c) hkeep), blanked_of_ne (congrArg (·.sp) hkeep),
    blanked_of_ne (congrArg (·.m) hp), blanked_of_ne (congrArg (·.x) hp), blanked_of_ne (congrArg (·.d) hp),
    blanked_of_ne (congrArg (·.i) hp), blanked_of_ne (congrArg (·.v) hp), blanked_of_ne (congrArg (·.n) hp),
    blanked_of_ne (congrArg (·.z) hp), blanked_of_ne (congrArg (·.c) hp), blanked_of_ne (congrArg (·.pbr) hkeep),
    eq_xce_of_exec_e_ne h,
    fun hne => eq_wai_of_mnemonic (blanked_of_ne (congrArg (·.waiting) hkeep) hne),
    fun hne => eq_stp_of_mnemonic (blanked_of_ne (congrArg (·.stopped) hkeep) hne), ?surroundings⟩
  case surroundings => simpa only [State.surroundings, Prod.mk.injEq] using (exec_frame h).surroundings

end Sys2Proof
end

section
/-! PROOFS. Properties of the state that everything at a step boundary keeps but a reset and a whole instruction; the value
of E is one of them (R33, R315, R322). -/

namespace Sys2Proof.Machine

open Sys2Proof

/-- The property survives what a boundary does besides a reset and an instruction carried out: a wait, an interrupt sequence,
and what an ABORT leaves (R314, R320, R332, R333). -/
structure KeptAtBoundary (Q : State → Prop) : Prop where
  /-- The ABORT latch may be set. -/
  latchAbort {s : State} (inp : StepInput) : Q s → Q (s.latchAbort inp)
  /-- A wait may end. -/
  wake {s : State} : Q s → Q { s with waiting := false }
  /-- An interrupt may be taken. -/
  takeInterrupt {s : State} (k : Interrupt) (r : Word) : Q s → Q (s.takeInterrupt k r)
  /-- An instruction may be aborted in time. -/
  discard {s : State} (t : State) : Q s → Q (s.discard t)
  /-- An interrupt sequence may be aborted late. -/
  lateSequence {s : State} (k : Interrupt) (r : Word) : Q s → Q (s.discardLate (s.takeInterrupt k r))
  /-- An instruction that has a last abortable cycle may be aborted late. -/
  lateInstruction {s t : State} {i : Instr} :
    hasLastAbortableCycle i = true → exec i s = .next t → Q s → Q (s.discardLate t)

namespace KeptAtBoundary

variable {Q : State → Prop} (hQ : KeptAtBoundary Q) {s t : State}

include hQ

theorem interrupted (n : Nat) (k : Interrupt) (r : Word) (hs : Q s) : Q (s.interrupted n k r) := by
  obtain ⟨u, j, hu, -, heq⟩ := interrupted_cases Q s n k r hs fun _ j => hQ.lateSequence j r
  rw [heq]
  exact hQ.takeInterrupt j r hu

theorem waitStep (inp : StepInput) (hs : Q s) : Q (s.waitStep inp) := by
  have hlatched : Q (s.latchAbort inp) := hQ.latchAbort inp hs
  have hwoken : Q { s.latchAbort inp with waiting := false } := hQ.wake hlatched
  unfold State.waitStep
  dsimp only
  split
  · split
    · exact hQ.interrupted _ _ _ hwoken
    · split
      · exact hQ.interrupted _ _ _ hwoken
      · split
        · exact hQ.interrupted _ _ _ hwoken
        · exact hwoken
  · exact hlatched

/-- What runs under no ABORT in time: an instruction carried out, or a state with the property. -/
theorem runUnaborted {late : Nat} (hs : Q s) (h : s.runUnaborted late = .next t) :
    Q t ∨ ∃ i, s.fetch = .ok i ∧ exec i s = .next t := by
  obtain ⟨i, u, hfetch, hexec, hrun⟩ := runUnaborted_cases s late
  rcases hrun with ⟨-, hrun⟩ | ⟨n, -, hcycle, hrun⟩ <;> cases hrun.symm.trans h
  · exact .inr ⟨i, hfetch, hexec⟩
  · exact .inl (hQ.interrupted _ _ _ (hQ.lateInstruction hcycle hexec hs))

/-- What a boundary answers (R316, R317): a reset, an instruction carried out, or a state with the property. -/
theorem boundary {inp : StepInput} (hs : Q s) (h : s.boundary inp = .next t) :
    (inp.res = true ∧ t = s.resetSequence) ∨ Q t ∨ ∃ i, s.fetch = .ok i ∧ exec i s = .next t := by
  rcases boundary_cases s inp with ⟨hres, hb⟩ | ⟨-, hb⟩ | ⟨-, hb⟩ | ⟨-, i, u, -, -, hb⟩ | ⟨-, -, hb⟩ |
    ⟨-, -, -, hb⟩ | ⟨-, hb⟩
  case inr.inr.inr.inr.inr.inr => exact .inr (hQ.runUnaborted hs (hb.symm.trans h))
  all_goals cases hb.symm.trans h
  · exact .inl ⟨hres, rfl⟩
  · exact .inr (.inl hs)
  · exact .inr (.inl (hQ.waitStep inp hs))
  · exact .inr (.inl (hQ.interrupted _ _ _ (hQ.discard u hs)))
  · exact .inr (.inl (hQ.interrupted _ _ _ hs))
  · exact .inr (.inl (hQ.interrupted _ _ _ hs))

end KeptAtBoundary

/-! ### E -/

namespace State

@[simp] theorem takeInterrupt_e (s : State) (k : Interrupt) (r : Word) : (s.takeInterrupt k r).e = s.e := by
  rw [takeInterrupt_eq]

@[simp] theorem discardLate_e (s t : State) : (s.discardLate t).e = s.e := by
  rw [discardLate_eq]

end State

/-- E has a given value: at a boundary only a reset and an instruction can change that (R33, R315, R322). -/
theorem keptAtBoundary_e (e : Bool) : KeptAtBoundary (fun s => s.e = e) where
  latchAbort _ hs := hs
  wake hs := hs
  takeInterrupt k r hs := (State.takeInterrupt_e _ k r).trans hs
  discard _ hs := hs
  lateSequence _ _ hs := (State.discardLate_e _ _).trans hs
  lateInstruction _ _ hs := (State.discardLate_e _ _).trans hs

/-- A step that changes E is a reset or executes XCE (R33, R315). -/
theorem step_e_ne {s t : State} (h : step s = .next t) (he : t.e ≠ s.e) :
    (s.input.res = true ∧ t.e = true) ∨
      ((s.takeEvents s.input).fetch = .ok .xce ∧ exec .xce (s.takeEvents s.input) = .next t) := by
  have hevents : (s.takeEvents s.input).e = s.e := State.takeEvents_e s s.input
  rw [step_eq] at h
  rcases (keptAtBoundary_e s.e).boundary hevents h with ⟨hres, rfl⟩ | hsame | ⟨i, hfetch, hexec⟩
  · exact .inl ⟨hres, rfl⟩
  · exact absurd hsame he
  · cases eq_xce_of_exec_e_ne hexec (hevents ▸ he)
    exact .inr ⟨hfetch, hexec⟩

end Sys2Proof.Machine

namespace Sys2Proof

open Sys2Proof.Machine

/-- Settles O19: XCE is the one mnemonic whose blanked state loses E, and a boundary keeps E but for a reset. -/
theorem emulationFlagWriters : Obligations.EmulationFlagWriters :=
  ⟨fun _ _ _ => eq_xce_of_exec_e_ne, fun k r s => s.takeInterrupt_e k r, fun _ _ => step_e_ne⟩

end Sys2Proof
end

section
/-! PROOFS. The locked values of Emulation mode and of 8-bit index registers (R22, R23, R35). Inside a `New` variant SH may
leave page 1, so the locks away from S are a part of their own, from which `EndNew` restores the whole (R222). -/

namespace Sys2Proof

theorem hiByte_zext16 (b : Byte) : hiByte (zext16 b) = 0 := by
  have hb : b.toNat < 2 ^ 8 := b.isLt
  apply BitVec.eq_of_toNat_eq
  simp only [hiByte, zext16, BitVec.extractLsb'_toNat, BitVec.toNat_setWidth, Nat.shiftRight_eq_div_pow,
    BitVec.ofNat_eq_ofNat, BitVec.toNat_ofNat]
  omega

namespace Machine.State

/-- The locks away from S: M and X in Emulation mode (R35), XH and YH while the index registers have 8 bits (R22). -/
def WidthInv (s : State) : Prop := (s.e = true → s.p.m = true ∧ s.p.x = true) ∧ s.IndexHighZero

/-- S is in page 1 in Emulation mode (R23). -/
def StackInv (s : State) : Prop := s.e = true → hiByte s.sp = 1

theorem modeInv_iff {s : State} : s.ModeInv ↔ s.WidthInv ∧ s.StackInv := by
  constructor
  · rintro ⟨hlock, hindex⟩
    refine ⟨⟨fun he => ?_, hindex⟩, fun he => ?_⟩
    all_goals obtain ⟨hm, hx, -, -, hsp⟩ := hlock he
    · exact ⟨hm, hx⟩
    · exact hsp
  · rintro ⟨⟨hwidths, hindex⟩, hstack⟩
    refine ⟨fun he => ?_, hindex⟩
    obtain ⟨hm, hx⟩ := hwidths he
    obtain ⟨hX, hY⟩ := hindex (by simp [x8, he])
    exact ⟨hm, hx, hX, hY, hstack he⟩

variable {s t u : State}

/-- An operation that chooses by a width or a condition. -/
theorem ModeInv.ite {c : Prop} [Decidable c] (ht : t.ModeInv) (hu : u.ModeInv) : (if c then t else u).ModeInv := by
  split
  · exact ht
  · exact hu

/-! ### One field written -/

theorem ModeInv.with_flags {q : Status} (hs : s.ModeInv) (hm : q.m = s.p.m) (hx : q.x = s.p.x) :
    { s with p := q }.ModeInv := by
  obtain ⟨hlock, hindex⟩ := hs
  refine ⟨?_, ?_⟩
  · simpa only [EmulationLocked, hm, hx] using hlock
  · simpa only [IndexHighZero, x8, hx] using hindex

theorem ModeInv.with_x {v : Word} (hs : s.ModeInv) (hv : s.x8 = true → hiByte v = 0) : { s with x := v }.ModeInv := by
  obtain ⟨⟨hwidths, hindex⟩, hstack⟩ := modeInv_iff.mp hs
  exact modeInv_iff.mpr ⟨⟨hwidths, fun h8 => ⟨hv h8, (hindex h8).2⟩⟩, hstack⟩

theorem ModeInv.with_y {v : Word} (hs : s.ModeInv) (hv : s.x8 = true → hiByte v = 0) : { s with y := v }.ModeInv := by
  obtain ⟨⟨hwidths, hindex⟩, hstack⟩ := modeInv_iff.mp hs
  exact modeInv_iff.mpr ⟨⟨hwidths, fun h8 => ⟨(hindex h8).1, hv h8⟩⟩, hstack⟩

theorem ModeInv.with_sp {v : Word} (hs : s.ModeInv) (hv : s.e = true → hiByte v = 1) : { s with sp := v }.ModeInv := by
  obtain ⟨hwidth, -⟩ := modeInv_iff.mp hs
  exact modeInv_iff.mpr ⟨hwidth, hv⟩

theorem ModeInv.with_pc (hs : s.ModeInv) (pc : Word) : { s with pc := pc }.ModeInv := hs

/-- A result in X, at either width: the two states a pull leaves differ in S alone. -/
theorem ModeInv.indexX (s : State) {b r : Byte} {v q : Word} (ht : t.ModeInv) (hu : u.ModeInv) (h8 : u.x8 = s.x8) :
    (if s.x8 then (t.setX8 b).setNZ r else { u with x := v }.setNZ q).ModeInv := by
  split
  case isTrue => exact ht.with_x fun _ => hiByte_zext16 b
  case isFalse h => exact hu.with_x fun hu8 => absurd (h8.symm.trans hu8) h

/-- A result in Y, at either width. -/
theorem ModeInv.indexY (s : State) {b r : Byte} {v q : Word} (ht : t.ModeInv) (hu : u.ModeInv) (h8 : u.x8 = s.x8) :
    (if s.x8 then (t.setY8 b).setNZ r else { u with y := v }.setNZ q).ModeInv := by
  split
  case isTrue => exact ht.with_y fun _ => hiByte_zext16 b
  case isFalse h => exact hu.with_y fun hu8 => absurd (h8.symm.trans hu8) h

/-! ### Stack -/

theorem hiByte_spAfterPush (h : s.e = true) : hiByte s.spAfterPush = hiByte s.sp := by
  simp [spAfterPush, h]

theorem hiByte_spAfterPull (h : s.e = true) : hiByte s.spAfterPull = hiByte s.sp := by
  simp [spAfterPull, h]

theorem WidthInv.pushNew8 (hs : s.WidthInv) (v : Byte) : (s.pushNew8 v).WidthInv := hs

theorem WidthInv.pushNew16 (hs : s.WidthInv) (v : Word) : (s.pushNew16 v).WidthInv := (hs.pushNew8 _).pushNew8 _

theorem ModeInv.stackInv (hs : s.ModeInv) : s.StackInv := (modeInv_iff.mp hs).2

theorem ModeInv.widthInv (hs : s.ModeInv) : s.WidthInv := (modeInv_iff.mp hs).1

theorem ModeInv.push8 (hs : s.ModeInv) (v : Byte) : (s.push8 v).ModeInv :=
  with_sp (s := s.writeByte (bank0 s.sp) v) hs fun he => (hiByte_spAfterPush he).trans (hs.stackInv he)

theorem ModeInv.push16 (hs : s.ModeInv) (v : Word) : (s.push16 v).ModeInv := (hs.push8 _).push8 _

theorem ModeInv.pull8 (hs : s.ModeInv) : s.pull8.2.ModeInv :=
  hs.with_sp fun he => (hiByte_spAfterPull he).trans (hs.stackInv he)

theorem ModeInv.pull16 (hs : s.ModeInv) : s.pull16.2.ModeInv := hs.pull8.pull8

/-- A push of either width. -/
theorem ModeInv.push (hs : s.ModeInv) (narrow : Bool) (b : Byte) (v : Word) :
    (if narrow then s.push8 b else s.push16 v).ModeInv :=
  (hs.push8 b).ite (hs.push16 v)

/-- `EndNew` restores what a `New` variant may break (R222). -/
theorem WidthInv.endNew (hs : s.WidthInv) : s.endNew.ModeInv := by
  rw [endNew_eq]
  refine modeInv_iff.mpr ⟨hs, fun he => ?_⟩
  change hiByte (if s.e = true then mkWord 0x01 (loByte s.sp) else s.sp) = 1
  rw [if_pos he, hiByte_mkWord]

/-- A push by a `New` variant. -/
theorem ModeInv.pushNew (hs : s.ModeInv) (v : Word) : (s.pushNew16 v).endNew.ModeInv := (hs.widthInv.pushNew16 v).endNew

theorem ModeInv.jsrIndexed (hs : s.ModeInv) (a : Word) : (s.jsrIndexed a).ModeInv := hs.pushNew (s.pc + 2)

theorem ModeInv.jumpLong (hs : s.ModeInv) (a : Addr) : (s.jumpLong a).ModeInv := hs

theorem ModeInv.callLong (hs : s.ModeInv) (a : Addr) : (s.callLong a).ModeInv :=
  ModeInv.jumpLong (((hs.widthInv.pushNew8 s.pbr).pushNew16 (s.pc + 3)).endNew) a

theorem ModeInv.rtl (hs : s.ModeInv) : s.rtl.ModeInv := WidthInv.endNew (s := s.pullNew16.2.pullNew8.2) hs.widthInv

theorem ModeInv.pld (hs : s.ModeInv) : s.pld.ModeInv := by
  unfold State.pld
  exact WidthInv.endNew hs.widthInv

/-! ### P written -/

/-- With the locks of Emulation mode in place, cutting XH and YH is what X = 1 asks for in Native mode (R22). -/
theorem EmulationLocked.truncateIndex (hs : s.EmulationLocked) : s.truncateIndex.ModeInv := by
  unfold State.truncateIndex
  split
  case isTrue h =>
    have he : s.e = false := by simpa using (Bool.and_eq_true_iff.mp h).1
    exact ⟨fun he' => absurd (he.symm.trans he') (by decide), fun _ => ⟨hiByte_zext16 _, hiByte_zext16 _⟩⟩
  case isFalse h =>
    refine ⟨hs, fun h8 => ?_⟩
    have he : s.e = true := by
      by_contra he
      simp_all [x8]
    obtain ⟨-, -, hX, hY, -⟩ := hs he
    exact ⟨hX, hY⟩

/-- P may be written anew where Emulation mode keeps M and X. -/
theorem ModeInv.locked_with_flags {q : Status} (hs : s.ModeInv) (hq : s.e = true → q.m = true ∧ q.x = true) :
    { s with p := q }.EmulationLocked := by
  intro he
  obtain ⟨-, -, hX, hY, hsp⟩ := hs.1 he
  exact ⟨(hq he).1, (hq he).2, hX, hY, hsp⟩

theorem ModeInv.loadP (hs : s.ModeInv) (b : Byte) : (s.loadP b).ModeInv := by
  refine (hs.locked_with_flags fun he => ?_).truncateIndex
  simpa [Status.ofPulled, he] using hs.widthInv.1 he

theorem ModeInv.sep (hs : s.ModeInv) (mask : Byte) : (s.sep mask).ModeInv := by
  refine (hs.locked_with_flags fun he => ?_).truncateIndex
  obtain ⟨hm, hx⟩ := hs.widthInv.1 he
  simp [Status.setBits, hm, hx]

/-- REP can clear X but not set it, so no index register needs cutting (R295). -/
theorem ModeInv.rep (hs : s.ModeInv) (mask : Byte) : (s.rep mask).ModeInv := by
  refine ⟨hs.locked_with_flags fun he => ?_, fun h8 => hs.2 ?_⟩
  · obtain ⟨hm, hx⟩ := hs.widthInv.1 he
    simp [Status.clearBits, he, hm, hx]
  · rcases (Bool.or_eq_true _ _).mp h8 with he | hx
    · exact (Bool.or_eq_true _ _).mpr (.inl he)
    · exact (Bool.or_eq_true _ _).mpr (.inr (Bool.and_eq_true_iff.mp hx).1)

/-! ### Operations -/

theorem ModeInv.readOp (hs : s.ModeInv) (op : Mnemonic) (src : Src) : (s.readOp op src).ModeInv := by
  unfold State.readOp
  split
  case h_2 => exact .indexX s hs hs rfl
  case h_3 => exact .indexY s hs hs rfl
  case h_14 => exact hs
  all_goals exact .ite hs hs

theorem ModeInv.writeOp (hs : s.ModeInv) (op : Mnemonic) (m : MemMode) : (s.writeOp op m).ModeInv := by
  unfold State.writeOp
  split
  case h_5 => exact hs
  all_goals exact .ite hs hs

/-- No read-modify-write function writes M or X (R181 to R188). -/
theorem rmwOf_widths (op : Mnemonic) (w : Nat) (a : BitVec w) (p : Status) (v : BitVec w) :
    (rmwOf op w a p v).2.m = p.m ∧ (rmwOf op w a p v).2.x = p.x := by
  unfold rmwOf
  split <;> exact ⟨rfl, rfl⟩

theorem ModeInv.modifyMem (hs : s.ModeInv) (op : Mnemonic) (m : MemMode) : (s.modifyMem (rmwOf op) m).ModeInv := by
  obtain ⟨w, a, v, hp⟩ := s.modifyMem_p (rmwOf op) m
  obtain ⟨hm, hx⟩ := rmwOf_widths op w a s.p v
  rw [modifyMem_eq, hp]
  exact hs.with_flags hm hx

theorem ModeInv.modifyAcc (hs : s.ModeInv) (op : Mnemonic) : (s.modifyAcc (rmwOf op)).ModeInv := by
  obtain ⟨w, a, v, hp⟩ := s.modifyAcc_p (rmwOf op)
  obtain ⟨hm, hx⟩ := rmwOf_widths op w a s.p v
  rw [modifyAcc_eq, hp]
  exact hs.with_flags hm hx

theorem ModeInv.toSp (hs : s.ModeInv) (v : Word) : (s.toSp v).ModeInv := by
  unfold State.toSp
  split
  case isTrue => exact hs.with_sp fun _ => hiByte_mkWord 0x01 _
  case isFalse h => exact hs.with_sp fun he => absurd he h

/-- XCE locks the values on the way into Emulation mode and frees nothing on the way out (R262). -/
theorem ModeInv.xce (hs : s.ModeInv) : s.xce.ModeInv := by
  unfold State.xce
  dsimp only
  split
  case isTrue =>
    exact ⟨fun _ => ⟨rfl, rfl, hiByte_zext16 _, hiByte_zext16 _, hiByte_mkWord _ _⟩,
      fun _ => ⟨hiByte_zext16 _, hiByte_zext16 _⟩⟩
  case isFalse h =>
    refine ⟨fun he => absurd he h, fun h8 => hs.2 ?_⟩
    rcases (Bool.or_eq_true _ _).mp h8 with he | hx
    · exact absurd he h
    · exact (Bool.or_eq_true _ _).mpr (.inr hx)

theorem ModeInv.blockStep (hs : s.ModeInv) (delta : Int) (dst src : Byte) : (s.blockStep delta dst src).ModeInv := by
  have hwrite : ({ s with dbr := dst }.writeByte (mkAddr dst s.y) (s.readByte (mkAddr src s.x))).ModeInv := hs
  unfold State.blockStep
  dsimp only
  split
  case isTrue => exact (hwrite.with_x fun _ => hiByte_zext16 _).with_y fun _ => hiByte_zext16 _
  case isFalse h => exact (hwrite.with_x fun h8 => absurd h8 h).with_y fun h8 => absurd h8 h

theorem ModeInv.stackInterrupt (hs : s.ModeInv) (k : Interrupt) (r : Word) : (s.stackInterrupt k r).ModeInv :=
  ((ModeInv.ite hs (hs.push8 s.pbr)).push16 r).push8 _

theorem ModeInv.takeInterrupt (hs : s.ModeInv) (k : Interrupt) (r : Word) : (s.takeInterrupt k r).ModeInv :=
  hs.stackInterrupt k r

theorem ModeInv.returnFromInterrupt (hs : s.ModeInv) : s.returnFromInterrupt.ModeInv := by
  have hload : (s.pull8.2.loadP s.pull8.1).ModeInv := hs.pull8.loadP _
  cases h : s.e with
  | true =>
    rw [returnFromInterrupt_emulation s h]
    exact hload.pull16
  | false =>
    rw [returnFromInterrupt_native s h]
    exact hload.pull16.pull8

theorem resetSequence_modeInv (s : State) : s.resetSequence.ModeInv :=
  ⟨fun _ => ⟨rfl, rfl, hiByte_zext16 _, hiByte_zext16 _, hiByte_mkWord _ _⟩,
    fun _ => ⟨hiByte_zext16 _, hiByte_zext16 _⟩⟩

end Machine.State

namespace Machine

open State

/-! ### `exec` -/

/-- An instruction that is its opcode alone keeps the locked values. -/
theorem exec_implied_modeInv {i : Instr} {op : Mnemonic} {s t : State} (hv : i.view = .implied op) (hs : s.ModeInv)
    (h : exec i s = .next t) : t.ModeInv := by
  have past : (s.advance 1).ModeInv := hs
  cases i <;> cases hv <;> cases h
  case clc | cld | cli | clv | sec | sed | sei | nop | wai | stp | xba | tcd | tdc | tsc => exact hs
  case dex | inx | tax | tsx | tyx => exact .indexX (s.advance 1) past past rfl
  case dey | iny | tay | txy => exact .indexY (s.advance 1) past past rfl
  case txa | tya => exact .ite past past
  case tcs | txs => exact past.toSp _
  case xce => exact past.xce
  case pha | phx | phy => exact past.push _ _ _
  case phb | phk | php => exact past.push8 _
  case phd => exact past.pushNew _
  case pla => exact .ite past.pull8 past.pull16
  case plb => exact past.pull8
  case pld => exact past.pld
  case plp => exact past.pull8.loadP _
  case plx => exact .indexX (s.advance 1) past.pull8 past.pull16 rfl
  case ply => exact .indexY (s.advance 1) past.pull8 past.pull16 rfl
  case rts => exact hs.pull16
  case rtl => exact hs.rtl
  case rti => exact past.returnFromInterrupt

/-- A jump, a call, a push of an operand, a trap, a block move, REP, SEP and opcode 42 keep the locked values. -/
theorem exec_special_modeInv {i : Instr} {op : Mnemonic} {n : Nat} {s t : State} (hv : i.view = .special op n)
    (hs : s.ModeInv) (h : exec i s = .next t) : t.ModeInv := by
  cases i <;> cases hv <;> cases h
  case jmpAbs | jmpAbsInd | jmpAbsXInd | jmpLong | jml | brl | reserved42 => exact hs
  case jsrAbs => exact (hs.push16 _).with_pc _
  case jsrAbsXInd => exact hs.jsrIndexed _
  case jsl => exact hs.callLong _
  case pea | pei | per => exact ModeInv.pushNew (s := s.advance _) hs _
  case mvn | mvp => exact hs.blockStep _ _ _
  case rep => exact ModeInv.rep (s := s.advance 2) hs _
  case sep => exact ModeInv.sep (s := s.advance 2) hs _
  case brk | cop => exact ModeInv.takeInterrupt (s := s.advance 2) hs _ _

/-- Every instruction keeps the locked values (R22, R23, R35). -/
theorem exec_modeInv {i : Instr} {s t : State} (hs : s.ModeInv) (h : exec i s = .next t) : t.ModeInv := by
  have past : (s.advance i.length).ModeInv := hs
  cases hv : i.view with
  | read op src =>
    cases (exec_of_view_read hv s).symm.trans h
    exact past.readOp op src
  | write op m =>
    cases (exec_of_view_write hv s).symm.trans h
    exact past.writeOp op m
  | modify op m =>
    cases (exec_of_view_modify hv s).symm.trans h
    exact past.modifyMem op m
  | acc op =>
    cases (exec_of_view_acc hv s).symm.trans h
    exact past.modifyAcc op
  | branch op r =>
    cases (exec_of_view_branch hv s).symm.trans h
    exact .ite past past
  | implied op => exact exec_implied_modeInv hv hs h
  | special op n => exact exec_special_modeInv hv hs h

/-! ### The step -/

/-- A late ABORT takes P from a state with the locked values and the same E, and cuts XH and YH (R22, R314). -/
theorem State.ModeInv.discardLate {s t : State} (hs : s.ModeInv) (ht : t.ModeInv) (he : t.e = s.e) :
    (s.discardLate t).ModeInv := by
  have hlock : { s with p := t.p }.EmulationLocked := hs.locked_with_flags fun h => ht.widthInv.1 (he.trans h)
  exact EmulationLocked.truncateIndex hlock

theorem exec_e_of_hasLastAbortableCycle {i : Instr} {s t : State} (hi : hasLastAbortableCycle i = true)
    (h : exec i s = .next t) : t.e = s.e := by
  by_contra he
  cases eq_xce_of_exec_e_ne h he
  exact absurd hi (by decide)

/-- What a boundary does besides a reset and an instruction keeps the locked values. -/
theorem keptAtBoundary_modeInv : KeptAtBoundary ModeInv where
  latchAbort _ hs := hs
  wake hs := hs
  takeInterrupt k r hs := hs.takeInterrupt k r
  discard _ hs := hs
  lateSequence k r hs := hs.discardLate (hs.takeInterrupt k r) (takeInterrupt_e _ k r)
  lateInstruction hi h hs := hs.discardLate (exec_modeInv hs h) (exec_e_of_hasLastAbortableCycle hi h)

theorem takeEvents_modeInv {s : State} (hs : s.ModeInv) (inp : StepInput) : (s.takeEvents inp).ModeInv := by
  rw [takeEvents_eq]
  exact hs.with_flags (q := { s.p with v := s.p.v || (s.hasSo && inp.soEdge) }) rfl rfl

theorem step_modeInv {s t : State} (hs : s.ModeInv) (h : step s = .next t) : t.ModeInv := by
  have hevents : (s.takeEvents s.input).ModeInv := takeEvents_modeInv hs s.input
  rw [step_eq] at h
  rcases keptAtBoundary_modeInv.boundary hevents h with ⟨-, rfl⟩ | ht | ⟨i, -, hexec⟩
  · exact resetSequence_modeInv _
  · exact ht
  · exact exec_modeInv hevents hexec

end Machine

open Sys2Proof.Machine

/-- Settles O7: a reset sets the locked values, every instruction keeps them, and so does whatever else a boundary does. -/
theorem stepKeepsModes : Obligations.StepKeepsModes :=
  fun _ _ => step_modeInv

end Sys2Proof
end

section
/-! PROOFS. The reset state (R52). -/

namespace Sys2Proof

open Sys2Proof.Machine

/-- Settles O5: the fields and the two unwritten bytes of the vector, read off. -/
theorem resetValues : Obligations.ResetValues := by
  unfold Obligations.ResetValues
  decide

/-- Settles O6: the modes hold by evaluation, memory is empty, and the part is a G65SC816. -/
theorem resetMeetsInvariants : Obligations.ResetMeetsInvariants := by
  have hmodes : State.reset.ModeInv := ⟨fun _ => by decide, fun _ => by decide⟩
  exact ⟨hmodes, reset_mem_wf, nofun⟩

end Sys2Proof
end

section
/-! PROOFS. Memory as the bus leaves it (R60, R72, R73, R80): its canonical form, and that what an instruction, an interrupt
sequence and a step write is what their accesses list. -/

namespace Sys2Proof

open Sys2Proof.Machine

/-- Settles O8: a step changes memory by byte writes alone, and each of them keeps the canonical form. -/
theorem stepKeepsMemoryForm : Obligations.StepKeepsMemoryForm :=
  fun _ _ hs hstep => (step_part hstep).mem.keeps (fun _ a b hm => Memory.write_wf b hm (physAddr_lt _ a)) hs

end Sys2Proof

namespace Sys2Proof.Machine

open Sys2Proof Sys2Proof.Claims

/-- Reads ahead of other accesses leave memory alone. -/
theorem afterAccesses_reads_append (s : State) {xs : List Access} (h : ∀ x ∈ xs, x.written = none) (ys : List Access) :
    afterAccesses s (xs ++ ys) = afterAccesses s ys := by
  rw [afterAccesses, List.foldl_append, foldl_reads _ _ _ h]
  rfl

namespace State

/-- `t` has the memory that these accesses leave of that of `s`. -/
def BusLeaves (s : State) (xs : List Access) (t : State) : Prop := t.mem = afterAccesses s xs

variable {s t u : State} {xs ys : List Access}

namespace BusLeaves

/-- Where there are no accesses, memory stays. -/
theorem nil (h : t.mem = s.mem) : BusLeaves s [] t := h

/-- Where there are reads alone, memory stays. -/
theorem reads (hreads : ∀ x ∈ xs, x.written = none) (h : t.mem = s.mem) : BusLeaves s xs t :=
  h.trans (foldl_reads s.config.variant s.mem xs hreads).symm

/-- Reads may come ahead. -/
theorem after_reads (hreads : ∀ x ∈ xs, x.written = none) (h : BusLeaves s ys t) : BusLeaves s (xs ++ ys) t :=
  h.trans (afterAccesses_reads_append s hreads ys).symm

/-- Reads may come behind. -/
theorem then_reads (h : BusLeaves s xs t) (hreads : ∀ x ∈ ys, x.written = none) : BusLeaves s (xs ++ ys) t := by
  rw [BusLeaves, afterAccesses, List.foldl_append, foldl_reads _ _ _ hreads]
  exact h

/-- Registers may be written behind it. -/
theorem then_registers (h : BusLeaves s xs t) (hmem : u.mem = t.mem) : BusLeaves s xs u := hmem.trans h

/-- Accesses follow one another in bus order. -/
theorem trans (h : BusLeaves s xs t) (hconfig : t.config = s.config) (h' : BusLeaves t ys u) :
    BusLeaves s (xs ++ ys) u := by
  rw [BusLeaves, afterAccesses, List.foldl_append]
  rw [BusLeaves, afterAccesses] at h h'
  rw [h', h, hconfig]

/-- Model and bus choose by one condition. -/
theorem ite {c : Prop} [Decidable c] (ht : BusLeaves s xs t) (hu : BusLeaves s ys u) :
    BusLeaves s (if c then xs else ys) (if c then t else u) := by
  split
  · exact ht
  · exact hu

/-- The model chooses by a width or a condition that does not matter to the bus. -/
theorem of_ite {c : Prop} [Decidable c] (ht : BusLeaves s xs t) (hu : BusLeaves s xs u) :
    BusLeaves s xs (if c then t else u) := by
  split
  · exact ht
  · exact hu

end BusLeaves

variable (s)

/-! ### PC does not matter to the accesses of an operand -/

@[simp] theorem pointerAccesses_advance (n : Nat) (m : MemMode) :
    (s.advance n).pointerAccesses m = s.pointerAccesses m := by
  cases m <;> rfl

/-! ### Operations -/

/-- A store of either width writes the bytes of its place (R72). -/
theorem store_bus (narrow : Bool) (pl : Place) (v : Word) :
    BusLeaves s (placeWrites narrow pl v) (if narrow then s.store8 pl (loByte v) else s.store16 pl v) :=
  .ite rfl rfl

/-- A push of either width, PC already past the instruction, writes its bytes (R220). -/
theorem push_bus (n : Nat) (narrow : Bool) (b : Byte) (v : Word) :
    BusLeaves s (s.pushAccesses (if narrow then [b] else [hiByte v, loByte v]))
      (if narrow then (s.advance n).push8 b else (s.advance n).push16 v) := by
  cases narrow <;> rfl

/-- A `New` push of 16 bits writes its bytes (R222). -/
theorem pushNew16_bus (v : Word) : BusLeaves s (s.pushNewAccesses [hiByte v, loByte v]) (s.pushNew16 v) := rfl

/-- An interrupt sequence, PC already past the instruction, writes what its accesses list (R320). -/
theorem interrupt_bus (n : Nat) (k : Interrupt) (r : Word) :
    BusLeaves s (s.interruptAccesses k r) ((s.advance n).takeInterrupt k r) := by
  have hpc : s.interruptAccesses k r = (s.advance n).interruptAccesses k r := by
    rw [interruptAccesses_eq, interruptAccesses_eq]
    rfl
  rw [hpc]
  exact ((s.advance n).foldl_interruptAccesses k r).symm

theorem readOp_mem (op : Mnemonic) (src : Src) : (s.readOp op src).mem = s.mem := by
  unfold readOp
  split
  case h_14 => rfl
  all_goals exact BusLeaves.of_ite (s := s) (xs := []) rfl rfl

/-- The four stores write the bytes of their place at the width of their register (R154 to R157). -/
theorem writeOp_bus {op : Mnemonic} (hop : op ∈ [.STA, .STX, .STY, .STZ]) (m : MemMode) :
    BusLeaves s (placeWrites (s.narrowFor op) (s.place m) (s.storeValue op)) (s.writeOp op m) := by
  simp only [List.mem_cons, List.not_mem_nil, or_false] at hop
  rcases hop with rfl | rfl | rfl | rfl <;> exact s.store_bus _ _ _

/-- A read-modify-write of memory writes what the locked end of its accesses lists (R72, R73). -/
theorem modifyMem_bus (f : RmwFn) (m : MemMode) :
    BusLeaves s (s.modifyAccesses f (s.place m)) (s.modifyMem f m) := by
  unfold BusLeaves afterAccesses modifyAccesses
  rw [foldl_lock]
  refine BusLeaves.after_reads (placeReads_reads _ _) (.ite ?_ rfl)
  unfold writeBack8
  cases s.e <;> rfl

theorem stepX_mem (delta : Int) : (s.stepX delta).mem = s.mem :=
  BusLeaves.of_ite (s := s) (xs := []) (.nil rfl) (.nil rfl)

theorem stepY_mem (delta : Int) : (s.stepY delta).mem = s.mem :=
  BusLeaves.of_ite (s := s) (xs := []) (.nil rfl) (.nil rfl)

theorem returnFromInterrupt_mem : s.returnFromInterrupt.mem = s.mem := by
  cases h : s.e with
  | true => simp [returnFromInterrupt_emulation s h]
  | false => simp [returnFromInterrupt_native s h]

theorem blockStep_bus (delta : Int) (dst src : Byte) :
    BusLeaves s [.read .data (mkAddr src s.x), .write (mkAddr dst s.y) (s.readByte (mkAddr src s.x))]
      (s.blockStep delta dst src) := by
  unfold blockStep
  dsimp only
  split <;> rfl

/-! ### `exec` -/

theorem fetch_then_bus {n : Nat} (h : BusLeaves s xs t) : BusLeaves s (s.fetchAccesses n ++ xs) t :=
  h.after_reads (s.fetchAccesses_reads n)

theorem tableAccesses_reads (p : Word) : ∀ x ∈ s.tableAccesses p, x.written = none := by
  simp [tableAccesses]

/-- Every instruction but JSR `(a,x)` fetches all its bytes first (R72). -/
theorem instrAccesses_of_ne {i : Instr} (h : ∀ a, i ≠ .jsrAbsXInd a) :
    s.instrAccesses i = s.fetchAccesses i.length ++ s.dataAccesses i := by
  unfold instrAccesses
  split
  · exact absurd rfl (h _)
  · rfl

end State

theorem mem_of_view_write {i : Instr} {op : Mnemonic} {m : MemMode} (h : i.view = .write op m) :
    op ∈ [.STA, .STX, .STY, .STZ] := by
  cases i <;> cases h <;> decide

open State

/-- What an instruction that is its opcode alone writes. -/
theorem exec_implied_bus {i : Instr} {op : Mnemonic} {s t : State} (hv : i.view = .implied op)
    (h : exec i s = .next t) : BusLeaves s (s.specialAccesses i) t := by
  cases i <;> cases hv <;> cases h
  case clc | cld | cli | clv | sec | sed | sei | nop | wai | stp | xba | tcd | tdc | tsc => exact .nil rfl
  case dex | inx => exact .nil (stepX_mem _ _)
  case dey | iny => exact .nil (stepY_mem _ _)
  case tax | tay | tsx | txa | txy | tya | tyx | tcs | txs | xce =>
    exact .of_ite (.nil rfl) (.nil rfl)
  case pha => exact s.push_bus 1 s.m8 s.a8 s.c
  case phx => exact s.push_bus 1 s.x8 (loByte s.x) s.x
  case phy => exact s.push_bus 1 s.x8 (loByte s.y) s.y
  case phb | phk | php => exact rfl
  case phd => exact (s.pushNew16_bus s.d).then_registers (endNew_mem _)
  case pla | plx | ply => exact .reads (s.pullAccesses_reads _) (BusLeaves.of_ite (s := s) (xs := []) rfl rfl)
  case plb | rts => exact .reads (s.pullAccesses_reads _) rfl
  case plp => exact .reads (s.pullAccesses_reads _) (loadP_mem _ _)
  case pld => exact .reads (s.pullNewAccesses_reads _) (endNew_mem _)
  case rtl => exact .reads (s.pullNewAccesses_reads _) (endNew_mem _)
  case rti => exact .reads (s.pullAccesses_reads _) (returnFromInterrupt_mem _)

/-- What a jump, a call, a push of an operand, a trap, a block move, REP, SEP and opcode 42 write. -/
theorem exec_special_bus {i : Instr} {op : Mnemonic} {n : Nat} {s t : State} (hv : i.view = .special op n)
    (h : exec i s = .next t) : BusLeaves s (s.instrAccesses i) t := by
  cases i <;> cases hv <;> cases h
  case jsrAbsXInd =>
    refine .then_reads (.then_reads (s.fetch_then_bus ?_) ?_) ?_
    · exact (s.pushNew16_bus _).then_registers (endNew_mem _)
    · simp [fetchAccess]
    · exact s.tableAccesses_reads _
  all_goals refine s.fetch_then_bus ?_
  case jmpAbs | jmpLong | brl | rep | reserved42 => exact .nil rfl
  case jmpAbsInd | jml => exact .reads (bank0Reads_reads _ _) rfl
  case jmpAbsXInd => exact .reads (s.tableAccesses_reads _) rfl
  case jsrAbs => exact rfl
  case jsl => exact .then_registers (t := (s.pushNew8 s.pbr).pushNew16 (s.pc + 3)) rfl (endNew_mem _)
  case pea | per => exact (s.pushNew16_bus _).then_registers (endNew_mem _)
  case pei => exact .after_reads (bank0Reads_reads _ _) ((s.pushNew16_bus _).then_registers (endNew_mem _))
  case mvn | mvp => exact s.blockStep_bus _ _ _
  case sep => exact .nil (truncateIndex_mem _)
  case brk | cop => exact s.interrupt_bus 2 _ _

/-- What an instruction writes on the bus is what it leaves in memory (R72, R73). -/
theorem exec_bus {i : Instr} {s t : State} (h : exec i s = .next t) : BusLeaves s (s.instrAccesses i) t := by
  have after_fetch (hv : ∀ op n, i.view ≠ .special op n) (hdata : BusLeaves s (s.dataAccesses i) t) :
      BusLeaves s (s.instrAccesses i) t := by
    rw [s.instrAccesses_of_ne (by rintro a rfl; exact hv _ _ rfl)]
    exact s.fetch_then_bus hdata
  cases hv : i.view with
  | read op src =>
    refine after_fetch (by simp [hv]) ?_
    cases (exec_of_view_read hv s).symm.trans h
    simp only [dataAccesses, hv]
    exact .reads (s.sourceAccesses_reads _ src) (readOp_mem (s.advance _) op src)
  | write op m =>
    refine after_fetch (by simp [hv]) ?_
    cases (exec_of_view_write hv s).symm.trans h
    simp only [dataAccesses, hv]
    have hstore := writeOp_bus (s.advance i.length) (mem_of_view_write hv) m
    rw [advance_place] at hstore
    exact .after_reads (s.pointerAccesses_reads m) hstore
  | modify op m =>
    refine after_fetch (by simp [hv]) ?_
    cases (exec_of_view_modify hv s).symm.trans h
    simp only [dataAccesses, hv]
    have hmodify := modifyMem_bus (s.advance i.length) (rmwOf op) m
    rw [advance_place] at hmodify
    exact .after_reads (s.pointerAccesses_reads m) hmodify
  | acc op =>
    refine after_fetch (by simp [hv]) ?_
    cases (exec_of_view_acc hv s).symm.trans h
    simp only [dataAccesses, hv]
    exact .of_ite rfl rfl
  | branch op r =>
    refine after_fetch (by simp [hv]) ?_
    cases (exec_of_view_branch hv s).symm.trans h
    simp only [dataAccesses, hv]
    exact .of_ite rfl rfl
  | implied op =>
    refine after_fetch (by simp [hv]) ?_
    simp only [dataAccesses, hv]
    exact exec_implied_bus hv h
  | special op n => exact exec_special_bus hv h

/-! ### The step -/

namespace State

variable {s t : State} {xs : List Access}

/-- What an ABORT in time leaves of something that writes these accesses (R314). -/
theorem discard_bus (h : BusLeaves s xs t) : BusLeaves s (s.discardedAccesses xs) (s.discard t) :=
  (s.foldl_discardedAccesses t xs h.symm).symm

/-- What a late ABORT leaves of it (R314). -/
theorem discardLate_bus (h : BusLeaves s xs t) : BusLeaves s (s.discardedAccesses xs) (s.discardLate t) :=
  (discard_bus h).then_registers (by rw [discardLate_eq, discard_eq])

theorem interrupted_bus (s : State) (n : Nat) (k : Interrupt) (r : Word) :
    BusLeaves s (s.interruptedAccesses n k r) (s.interrupted n k r) :=
  (s.foldl_interruptedAccesses n k r).symm

theorem waitStep_bus (s : State) (inp : StepInput) : BusLeaves s (s.waitAccesses inp) (s.waitStep inp) :=
  .ite (.ite (interrupted_bus _ _ _ _) (.ite (interrupted_bus _ _ _ _) (.ite (interrupted_bus _ _ _ _) (.nil rfl))))
    (.nil rfl)

/-- The accesses of the instruction the fetch finds are those of the run. -/
theorem runAccesses_of_fetch {i : Instr} (h : s.fetch = .ok i) : s.runAccesses = s.instrAccesses i := by
  simp only [runAccesses, h]

/-- The answer `r`, where it is a next state, has the memory that these accesses leave. -/
def BusAnswers (s : State) (xs : List Access) (r : Result) : Prop := ∀ t, r = .next t → BusLeaves s xs t

namespace BusAnswers

theorem next (h : BusLeaves s xs t) : BusAnswers s xs (.next t) := by
  rintro _ ⟨⟩
  exact h

/-- Model and bus choose by one condition. -/
theorem ite {c : Prop} [Decidable c] {ys : List Access} {r q : Result} (hr : BusAnswers s xs r)
    (hq : BusAnswers s ys q) : BusAnswers s (if c then xs else ys) (if c then r else q) := by
  split
  · exact hr
  · exact hq

end BusAnswers

theorem runAborted_bus (s : State) (late : Nat) : BusAnswers s (s.abortedAccesses late) (s.runAborted late) := by
  obtain ⟨i, t, hfetch, hexec, hrun⟩ := runInstruction_cases s
  have hdiscard : BusLeaves s (s.discardedAccesses s.runAccesses) (s.discard t) :=
    discard_bus (runAccesses_of_fetch hfetch ▸ exec_bus hexec)
  simp only [abortedAccesses, runAborted, hrun]
  exact .next (hdiscard.trans rfl (interrupted_bus _ _ _ _))

theorem runUnaborted_bus (s : State) (late : Nat) :
    BusAnswers s (s.unabortedAccesses late) (s.runUnaborted late) := by
  obtain ⟨i, t, hfetch, hexec, hrun⟩ := runInstruction_cases s
  have hwhole : BusLeaves s s.runAccesses t := runAccesses_of_fetch hfetch ▸ exec_bus hexec
  have hconfig : (s.discardLate t).config = s.config := by rw [discardLate_eq]
  cases late with
  | zero =>
    simp only [unabortedAccesses, runUnaborted, hrun]
    exact .next hwhole
  | succ n =>
    simp only [unabortedAccesses, runUnaborted, hfetch, hrun]
    exact .ite (.next ((discardLate_bus hwhole).trans hconfig (interrupted_bus _ _ _ _))) (.next hwhole)

/-- The reset sequence reads alone (R352). -/
theorem resetAccesses_reads (s : State) : ∀ x ∈ s.resetAccesses, x.written = none := by
  simp [resetAccesses, vectorAccesses]

/-- Whatever the boundary chooses, its accesses leave the memory it answers with (R316, R317). -/
theorem boundary_bus (s : State) (inp : StepInput) :
    BusAnswers s (s.boundaryAccesses inp) (s.boundary inp) :=
  .ite (.next (.reads s.resetAccesses_reads rfl)) <|
  .ite (.next (.nil rfl)) <|
  .ite (.next (s.waitStep_bus inp)) <|
  .ite (s.runAborted_bus _) <|
  .ite (.next (s.interrupted_bus _ _ _)) <|
  .ite (.next (s.interrupted_bus _ _ _)) (s.runUnaborted_bus _)

end State

end Sys2Proof.Machine

namespace Sys2Proof

open Sys2Proof.Machine

/-- Settles O22: the instructions by view, the step along the cases of its boundary. -/
theorem busWritesMakeMemory : Obligations.BusWritesMakeMemory :=
  ⟨fun _ _ _ => exec_bus, fun s _ hstep => (s.takeEvents s.input).boundary_bus s.input _ hstep⟩

end Sys2Proof
end

section
/-! PROOFS. What an instruction does with another memory (R72, R74): where the two memories agree on the addresses of its
data reads, it ends in states that differ in memory alone, and its accesses are the same. One rule per operation, then `exec`. -/

namespace Sys2Proof.Machine

open Sys2Proof Sys2Proof.Claims

/-- The data reads among these accesses are at these addresses. -/
def ReadsWithin (A : Addr → Prop) (xs : List Access) : Prop := ∀ x ∈ xs, IsDataRead x → A x.addr

section

variable {A : Addr → Prop} {xs ys : List Access} {a : Addr}

@[simp] theorem readsWithin_nil : ReadsWithin A [] := nofun

@[simp] theorem readsWithin_cons_read {k : AccessKind} (hopcode : k ≠ .opcode) (hoperand : k ≠ .operand) :
    ReadsWithin A (.read k a :: xs) ↔ A a ∧ ReadsWithin A xs := by
  simp [ReadsWithin, IsDataRead, Access.read, hopcode, hoperand]

@[simp] theorem readsWithin_cons_write {b : Byte} : ReadsWithin A (.write a b :: xs) ↔ ReadsWithin A xs := by
  simp [ReadsWithin, IsDataRead]

@[simp] theorem readsWithin_append : ReadsWithin A (xs ++ ys) ↔ ReadsWithin A xs ∧ ReadsWithin A ys := by
  simp only [ReadsWithin, List.mem_append, or_imp, forall_and]

@[simp] theorem readsWithin_lock : ReadsWithin A (xs.map Access.lock) ↔ ReadsWithin A xs := by
  simp [ReadsWithin, IsDataRead, Access.lock]

theorem readsWithin_bank0Reads_two {p : Word} :
    ReadsWithin A (State.bank0Reads p 2) ↔ A (bank0 p) ∧ A (bank0 (p + 1)) := by
  simp [State.bank0Reads, List.range_succ]

theorem readsWithin_bank0Reads_three {p : Word} :
    ReadsWithin A (State.bank0Reads p 3) ↔ A (bank0 p) ∧ A (bank0 (p + 1)) ∧ A (bank0 (p + 2)) := by
  simp [State.bank0Reads, List.range_succ]

end

namespace State

/-- The state with another memory. -/
def withMem (s : State) (m : Memory) : State := { s with mem := m }

/-- The memory `m` agrees with that of `s` on these addresses. -/
def AgreeOn (A : Addr → Prop) (s : State) (m : Memory) : Prop := ∀ a, A a → (s.withMem m).readByte a = s.readByte a

/-- The address of a data read of `i`. -/
def DataReadAddr (s : State) (i : Instr) (a : Addr) : Prop := ∃ x ∈ s.instrAccesses i, IsDataRead x ∧ x.addr = a

/-- The second state differs from the first in memory alone, and there not on these addresses. -/
inductive Twin (A : Addr → Prop) (s : State) : State → Prop where
  | mk {m : Memory} (h : AgreeOn A s m) : Twin A s (s.withMem m)

variable {A : Addr → Prop} {s t u v : State} {m : Memory}

/-- Registers do not matter to the agreement. -/
theorem AgreeOn.congr (h : AgreeOn A s m) (hmem : t.mem = s.mem) (hconfig : t.config = s.config) : AgreeOn A t m := by
  intro a ha
  have hread : m.read (physAddr s.config.variant a) = s.mem.read (physAddr s.config.variant a) := h a ha
  simpa only [readByte, withMem, hmem, hconfig] using hread

/-- An operation that writes registers alone. -/
theorem AgreeOn.registers (h : AgreeOn A s m) (hmem : t.mem = s.mem) (hconfig : t.config = s.config)
    (hu : u = t.withMem m) : Twin A t u :=
  hu ▸ .mk (h.congr hmem hconfig)

/-- One byte written to both memories leaves them in agreement. -/
theorem AgreeOn.write (h : AgreeOn A s m) (a : Addr) (b : Byte) :
    AgreeOn A (s.writeByte a b) (m.write (physAddr s.config.variant a) b) := by
  intro c hc
  rw [readByte_writeByte, ← h c hc]
  exact readByte_writeByte (s.withMem m) a c b

namespace Twin

/-- Both choose by one condition. -/
theorem ite {c : Bool} (ht : c = true → Twin A t u) (hf : c = false → Twin A s v) :
    Twin A (if c then t else s) (if c then u else v) := by
  cases c with
  | true => exact ht rfl
  | false => exact hf rfl

/-- An operation that keeps twins may follow. -/
theorem map (h : Twin A s u) (f : State → State)
    (hf : ∀ {m : Memory}, AgreeOn A s m → Twin A (f s) (f (s.withMem m))) : Twin A (f s) (f u) := by
  obtain ⟨h⟩ := h
  exact hf h

/-- PC may be set to what both read alike. -/
theorem jump (h : Twin A s u) (target : State → Word)
    (htarget : ∀ {m : Memory}, AgreeOn A s m → target (s.withMem m) = target s) :
    Twin A { s with pc := target s } { u with pc := target u } := by
  obtain ⟨h⟩ := h
  rw [htarget h]
  exact h.registers rfl rfl rfl

/-- P may be set. -/
theorem setP (h : Twin A s u) (q : Status) : Twin A { s with p := q } { u with p := q } :=
  h.map (fun t => { t with p := q }) fun h => h.registers rfl rfl rfl

theorem writeByte (h : Twin A s u) (a : Addr) (b : Byte) : Twin A (s.writeByte a b) (u.writeByte a b) :=
  h.map (State.writeByte · a b) fun h => .mk (h.write a b)

theorem push8 (h : Twin A s u) (b : Byte) : Twin A (s.push8 b) (u.push8 b) :=
  h.map (State.push8 · b) fun h => .mk (h.write (bank0 s.sp) b)

theorem pushNew8 (h : Twin A s u) (b : Byte) : Twin A (s.pushNew8 b) (u.pushNew8 b) :=
  h.map (State.pushNew8 · b) fun h => .mk (h.write (bank0 s.sp) b)

theorem push16 (h : Twin A s u) (w : Word) : Twin A (s.push16 w) (u.push16 w) := (h.push8 _).push8 _

theorem pushNew16 (h : Twin A s u) (w : Word) : Twin A (s.pushNew16 w) (u.pushNew16 w) := (h.pushNew8 _).pushNew8 _

theorem store8 (h : Twin A s u) (pl : Place) (b : Byte) : Twin A (s.store8 pl b) (u.store8 pl b) := h.writeByte _ b

theorem store16 (h : Twin A s u) (pl : Place) (w : Word) : Twin A (s.store16 pl w) (u.store16 pl w) :=
  (h.writeByte _ _).writeByte _ _

theorem writeBack16 (h : Twin A s u) (pl : Place) (w : Word) : Twin A (s.writeBack16 pl w) (u.writeBack16 pl w) :=
  (h.writeByte _ _).writeByte _ _

theorem e (h : Twin A s u) : u.e = s.e := by
  cases h
  rfl

theorem writeBack8 (h : Twin A s u) (pl : Place) (old new : Byte) :
    Twin A (s.writeBack8 pl old new) (u.writeBack8 pl old new) := by
  unfold State.writeBack8
  rw [h.e]
  exact .ite (fun _ => (h.store8 pl old).store8 pl new) (fun _ => h.store8 pl new)

end Twin

/-! ### Operations that do not read -/

theorem AgreeOn.endNew (h : AgreeOn A s m) : Twin A s.endNew (s.withMem m).endNew := by
  have hcommute : (s.withMem m).endNew = s.endNew.withMem m := by
    rw [endNew_eq, endNew_eq]
    rfl
  rw [hcommute]
  exact .mk (h.congr (endNew_mem s) (endNew_config s))

theorem Twin.endNew (h : Twin A s u) : Twin A s.endNew u.endNew := h.map State.endNew AgreeOn.endNew

theorem AgreeOn.truncateIndex (h : AgreeOn A s m) : Twin A s.truncateIndex (s.withMem m).truncateIndex := by
  have hcommute : (s.withMem m).truncateIndex = s.truncateIndex.withMem m := by
    rw [truncateIndex_eq, truncateIndex_eq]
    rfl
  rw [hcommute]
  exact .mk (h.congr (truncateIndex_mem s) (truncateIndex_config s))

theorem AgreeOn.loadP (h : AgreeOn A s m) (b : Byte) : Twin A (s.loadP b) ((s.withMem m).loadP b) :=
  AgreeOn.truncateIndex (s := { s with p := s.p.ofPulled s.e b }) h

/-! ### What access lists read -/

/-- The locked end of a read-modify-write reads its operand at the accumulator's width (R73, R180). -/
theorem readsWithin_modifyAccesses {f : RmwFn} {pl : Place} :
    ReadsWithin A (s.modifyAccesses f pl) → ReadsWithin A (placeReads s.m8 pl) := by
  rw [modifyAccesses, readsWithin_lock, readsWithin_append]
  exact And.left

theorem readsWithin_tableAccesses {p : Word} :
    ReadsWithin A (s.tableAccesses p) ↔ A (mkAddr s.pbr p) ∧ A (mkAddr s.pbr (p + 1)) := by
  simp [tableAccesses]

/-- An interrupt sequence reads its vector (R322). -/
theorem readsWithin_interruptAccesses {k : Interrupt} {r : Word} (hr : ReadsWithin A (s.interruptAccesses k r)) :
    A (bank0 (k.vector s.e)) ∧ A (bank0 (k.vector s.e + 1)) := by
  simpa [vectorAccesses] using (readsWithin_append.mp hr).2

/-- PC does not matter to the slots of a pull. -/
theorem readsWithin_pullAccesses_advance {n k : Nat} (hr : ReadsWithin A (s.pullAccesses k)) :
    ReadsWithin A ((s.advance n).pullAccesses k) := by
  rw [pullAccesses_eq] at hr ⊢
  exact hr

/-- P does not matter to the slots of a pull. -/
theorem pullAccesses_loadP (b : Byte) (n : Nat) : (s.loadP b).pullAccesses n = s.pullAccesses n := by
  simp [pullAccesses_eq, up]

theorem sourceAccesses_advance (n : Nat) (narrow : Bool) (src : Src) :
    (s.advance n).sourceAccesses narrow src = s.sourceAccesses narrow src := by
  cases src <;> simp [sourceAccesses]

/-! ### Accesses that do not depend on memory -/

theorem pointerAccesses_withMem (md : MemMode) : (s.withMem m).pointerAccesses md = s.pointerAccesses md := by
  cases md <;> rfl

theorem pushAccesses_withMem (bytes : List Byte) : (s.withMem m).pushAccesses bytes = s.pushAccesses bytes := by
  rw [pushAccesses_eq, pushAccesses_eq]
  rfl

theorem pullAccesses_withMem (n : Nat) : (s.withMem m).pullAccesses n = s.pullAccesses n := by
  rw [pullAccesses_eq, pullAccesses_eq]
  rfl

/-- The late operand of JSR `(a,x)` is a byte of its own or one it has pushed (R72; log 13). -/
theorem lateOperand_withMem (a : Word) : (s.withMem m).lateOperand a = s.lateOperand a := by
  rw [lateOperand_eq, lateOperand_eq]
  rfl

/-! ### Reads -/

variable (h : AgreeOn A s m)

include h

theorem readWord0_withMem {p : Word} (hp : A (bank0 p) ∧ A (bank0 (p + 1))) :
    (s.withMem m).readWord0 p = s.readWord0 p :=
  congrArg₂ mkWord (h _ hp.2) (h _ hp.1)

theorem readAddr0_withMem {p : Word} (hp : A (bank0 p) ∧ A (bank0 (p + 1)) ∧ A (bank0 (p + 2))) :
    (s.withMem m).readAddr0 p = s.readAddr0 p :=
  congrArg₂ mkAddr (h _ hp.2.2) (readWord0_withMem h ⟨hp.1, hp.2.1⟩)

theorem readWordK_withMem {p : Word} (hp : A (mkAddr s.pbr p) ∧ A (mkAddr s.pbr (p + 1))) :
    (s.withMem m).readWordK p = s.readWordK p :=
  congrArg₂ mkWord (h _ hp.2) (h _ hp.1)

theorem dirPtr16_withMem {p : Word} (hp : ReadsWithin A (s.pointer16 p)) :
    (s.withMem m).dirPtr16 p = s.dirPtr16 p := by
  have hpointer : A (bank0 p) ∧ A (bank0 (s.dirPtrSecond p)) := by simpa [pointer16] using hp
  exact congrArg₂ mkWord (h _ hpointer.2) (h _ hpointer.1)

/-- The effective address depends on the pointer the mode reads (R125 to R129, R136). -/
theorem place_withMem {md : MemMode} (hr : ReadsWithin A (s.pointerAccesses md)) :
    (s.withMem m).place md = s.place md := by
  cases md with
  | dirInd o => exact congrArg (fun w => Place.long (mkAddr s.dbr w)) (dirPtr16_withMem h hr)
  | dirXInd o => exact congrArg (fun w => Place.long (mkAddr s.dbr w)) (dirPtr16_withMem h hr)
  | dirIndY o => exact congrArg (fun w => Place.long (mkAddr s.dbr w + zext24 s.y)) (dirPtr16_withMem h hr)
  | dirIndLong o => exact congrArg Place.long (readAddr0_withMem h (readsWithin_bank0Reads_three.mp hr))
  | dirIndLongY o =>
    exact congrArg (fun p => Place.long (p + zext24 s.y)) (readAddr0_withMem h (readsWithin_bank0Reads_three.mp hr))
  | stkRelIndY o =>
    exact congrArg (fun w => Place.long (mkAddr s.dbr w + zext24 s.y))
      (readWord0_withMem h (readsWithin_bank0Reads_two.mp hr))
  | dir | dirX | dirY | abs | absX | absY | long | longX | stkRel => rfl

theorem load8_withMem {pl : Place} (hr : ReadsWithin A (placeReads true pl)) :
    (s.withMem m).load8 pl = s.load8 pl := by
  have hfirst : A pl.first := by simpa [placeReads] using hr
  exact h _ hfirst

theorem load16_withMem {pl : Place} (hr : ReadsWithin A (placeReads false pl)) :
    (s.withMem m).load16 pl = s.load16 pl := by
  have hplace : A pl.first ∧ A pl.second := by simpa [placeReads] using hr
  exact congrArg₂ mkWord (h _ hplace.2) (h _ hplace.1)

theorem operand8_withMem {src : Src} (hr : ReadsWithin A (s.sourceAccesses true src)) :
    (s.withMem m).operand8 src = s.operand8 src := by
  cases src with
  | imm w => cases w <;> rfl
  | mem md =>
    obtain ⟨hpointer, hplace⟩ := readsWithin_append.mp hr
    simp only [operand8, place_withMem h hpointer, load8_withMem h hplace]

theorem operand16_withMem {src : Src} (hr : ReadsWithin A (s.sourceAccesses false src)) :
    (s.withMem m).operand16 src = s.operand16 src := by
  cases src with
  | imm w => cases w <;> rfl
  | mem md =>
    obtain ⟨hpointer, hplace⟩ := readsWithin_append.mp hr
    simp only [operand16, place_withMem h hpointer, load16_withMem h hplace]

theorem pull8_withMem (hr : ReadsWithin A (s.pullAccesses 1)) :
    (s.withMem m).pull8 = (s.pull8.1, s.pull8.2.withMem m) := by
  have hslot : A (bank0 s.spAfterPull) := by simpa [pullAccesses] using hr
  exact congrArg (·, s.pull8.2.withMem m) (h _ hslot)

theorem pull16_withMem (hr : ReadsWithin A (s.pullAccesses 2)) :
    (s.withMem m).pull16 = (s.pull16.1, s.pull16.2.withMem m) := by
  have hslots : A (bank0 s.spAfterPull) ∧ A (bank0 s.pull8.2.spAfterPull) := by simpa [pullAccesses] using hr
  exact congrArg (·, s.pull16.2.withMem m) (congrArg₂ mkWord (h _ hslots.2) (h _ hslots.1))

theorem pullNew8_withMem (hr : ReadsWithin A (s.pullNewAccesses 1)) :
    (s.withMem m).pullNew8 = (s.pullNew8.1, s.pullNew8.2.withMem m) := by
  have hslot : A (bank0 (s.sp + 1)) := by simpa [pullNewAccesses] using hr
  exact congrArg (·, s.pullNew8.2.withMem m) (h _ hslot)

theorem pullNew16_withMem (hr : ReadsWithin A (s.pullNewAccesses 2)) :
    (s.withMem m).pullNew16 = (s.pullNew16.1, s.pullNew16.2.withMem m) := by
  have hslots : A (bank0 (s.sp + 1)) ∧ A (bank0 (s.sp + 1 + 1)) := by simpa [pullNewAccesses] using hr
  exact congrArg (·, s.pullNew16.2.withMem m) (congrArg₂ mkWord (h _ hslots.2) (h _ hslots.1))

/-! ### Operations -/

/-- Both read the same operand, and what follows from it in the registers is the same (R150). -/
theorem readOp_twin {op : Mnemonic} {src : Src} (hr : ReadsWithin A (s.sourceAccesses (s.narrowFor op) src)) :
    Twin A (s.readOp op src) ((s.withMem m).readOp op src) := by
  have h8 : s.narrowFor op = true → (s.withMem m).operand8 src = s.operand8 src :=
    fun hn => operand8_withMem h (hn ▸ hr)
  have h16 : s.narrowFor op = false → (s.withMem m).operand16 src = s.operand16 src :=
    fun hn => operand16_withMem h (hn ▸ hr)
  unfold readOp
  split
  case h_14 => exact .mk h
  case h_13 md =>
    have hload8 (hn : s.m8 = true) : (s.withMem m).load8 ((s.withMem m).place md) = s.load8 (s.place md) := h8 hn
    have hload16 (hn : s.m8 = false) : (s.withMem m).load16 ((s.withMem m).place md) = s.load16 (s.place md) := h16 hn
    refine .ite (fun hn => ?_) (fun hn => ?_)
    · rw [hload8 hn]
      exact h.registers rfl rfl rfl
    · rw [hload16 hn]
      exact h.registers rfl rfl rfl
  all_goals
    refine .ite (fun hn => ?_) (fun hn => ?_)
    · rw [h8 hn]
      exact h.registers rfl rfl rfl
    · rw [h16 hn]
      exact h.registers rfl rfl rfl

/-- A store of either width. -/
theorem store_twin (narrow : Bool) (pl : Place) (b : Byte) (w : Word) :
    Twin A (if narrow then s.store8 pl b else s.store16 pl w)
      (if narrow then (s.withMem m).store8 pl b else (s.withMem m).store16 pl w) :=
  .ite (fun _ => Twin.store8 (.mk h) pl b) (fun _ => Twin.store16 (.mk h) pl w)

theorem writeOp_twin (op : Mnemonic) {md : MemMode} (hr : ReadsWithin A (s.pointerAccesses md)) :
    Twin A (s.writeOp op md) ((s.withMem m).writeOp op md) := by
  have hplace : (s.withMem m).place md = s.place md := place_withMem h hr
  unfold writeOp
  split
  case h_5 => exact .mk h
  all_goals
    simp only [sta, stx, sty, stz, hplace]
    exact store_twin h _ _ _ _

theorem modifyMem_twin (f : RmwFn) {md : MemMode} (hp : ReadsWithin A (s.pointerAccesses md))
    (hr : ReadsWithin A (placeReads s.m8 (s.place md))) :
    Twin A (s.modifyMem f md) ((s.withMem m).modifyMem f md) := by
  unfold modifyMem
  rw [place_withMem h hp]
  refine .ite (fun hn => ?_) (fun hn => ?_)
  · rw [load8_withMem h (hn ▸ hr)]
    exact ((Twin.mk h).writeBack8 _ _ _).setP _
  · rw [load16_withMem h (hn ▸ hr)]
    exact ((Twin.mk h).writeBack16 _ _).setP _

theorem stepX_twin (delta : Int) : Twin A (s.stepX delta) ((s.withMem m).stepX delta) :=
  .ite (fun _ => h.registers rfl rfl rfl) fun _ => h.registers rfl rfl rfl

theorem stepY_twin (delta : Int) : Twin A (s.stepY delta) ((s.withMem m).stepY delta) :=
  .ite (fun _ => h.registers rfl rfl rfl) fun _ => h.registers rfl rfl rfl

/-! ### Stack -/

/-- A pull of either width, with what is done to the pulled value. -/
theorem pull_twin {narrow : Bool} (hr : ReadsWithin A (s.pullAccesses (if narrow then 1 else 2)))
    (f : Byte × State → State) (g : Word × State → State)
    (hf : Twin A (f s.pull8) (f (s.pull8.1, s.pull8.2.withMem m)))
    (hg : Twin A (g s.pull16) (g (s.pull16.1, s.pull16.2.withMem m))) :
    Twin A (if narrow then f s.pull8 else g s.pull16)
      (if narrow then f (s.withMem m).pull8 else g (s.withMem m).pull16) := by
  refine .ite (fun hn => ?_) (fun hn => ?_)
  · rw [pull8_withMem h (by simpa [hn] using hr)]
    exact hf
  · rw [pull16_withMem h (by simpa [hn] using hr)]
    exact hg

theorem pla_twin (hr : ReadsWithin A (s.pullAccesses (if s.m8 then 1 else 2))) : Twin A s.pla (s.withMem m).pla :=
  pull_twin h hr (fun q => (q.2.setA q.1).setNZ q.1) (fun q => (q.2.setC q.1).setNZ q.1)
    (h.registers rfl rfl rfl) (h.registers rfl rfl rfl)

theorem plx_twin (hr : ReadsWithin A (s.pullAccesses (if s.x8 then 1 else 2))) : Twin A s.plx (s.withMem m).plx :=
  pull_twin h hr (fun q => (q.2.setX8 q.1).setNZ q.1) (fun q => ({ q.2 with x := q.1 } : State).setNZ q.1)
    (h.registers rfl rfl rfl) (h.registers rfl rfl rfl)

theorem ply_twin (hr : ReadsWithin A (s.pullAccesses (if s.x8 then 1 else 2))) : Twin A s.ply (s.withMem m).ply :=
  pull_twin h hr (fun q => (q.2.setY8 q.1).setNZ q.1) (fun q => ({ q.2 with y := q.1 } : State).setNZ q.1)
    (h.registers rfl rfl rfl) (h.registers rfl rfl rfl)

theorem plb_twin (hr : ReadsWithin A (s.pullAccesses 1)) : Twin A s.plb (s.withMem m).plb := by
  unfold plb
  rw [pull8_withMem h hr]
  exact h.registers rfl rfl rfl

theorem plp_twin (hr : ReadsWithin A (s.pullAccesses 1)) : Twin A s.plp (s.withMem m).plp := by
  unfold plp
  rw [pull8_withMem h hr]
  exact AgreeOn.loadP (s := s.pull8.2) h _

theorem pld_twin (hr : ReadsWithin A (s.pullNewAccesses 2)) : Twin A s.pld (s.withMem m).pld := by
  unfold pld
  rw [pullNew16_withMem h hr]
  exact AgreeOn.endNew (s := { s.pullNew16.2 with d := s.pullNew16.1 }.setNZ s.pullNew16.1) h

/-! ### Jumps, calls, returns, interrupts, block moves -/

theorem rts_twin (hr : ReadsWithin A (s.pullAccesses 2)) : Twin A s.rts (s.withMem m).rts := by
  unfold rts
  rw [pull16_withMem h hr]
  exact h.registers rfl rfl rfl

theorem rtl_twin (hr : ReadsWithin A (s.pullNewAccesses 3)) : Twin A s.rtl (s.withMem m).rtl := by
  obtain ⟨hlo, hhi, hbank⟩ : A (bank0 (s.sp + 1)) ∧ A (bank0 (s.sp + 1 + 1)) ∧ A (bank0 (s.sp + 1 + 1 + 1)) := by
    simpa [pullNewAccesses] using hr
  have hbyte : (s.pullNew16.2.withMem m).pullNew8 =
      (s.pullNew16.2.pullNew8.1, s.pullNew16.2.pullNew8.2.withMem m) :=
    pullNew8_withMem h (by simpa [pullNewAccesses] using hbank)
  unfold rtl
  dsimp only
  rw [pullNew16_withMem h (by simpa [pullNewAccesses] using ⟨hlo, hhi⟩), hbyte]
  exact (AgreeOn.endNew (s := s.pullNew16.2.pullNew8.2) h).map
    (fun t => { t with pc := s.pullNew16.1 + 1, pbr := s.pullNew16.2.pullNew8.1 }) fun h => h.registers rfl rfl rfl

theorem callLong_twin (a : Addr) : Twin A (s.callLong a) ((s.withMem m).callLong a) :=
  ((((Twin.mk h).pushNew8 s.pbr).pushNew16 (s.pc + 3)).endNew).map (jumpLong · a) fun h => h.registers rfl rfl rfl

theorem stackInterrupt_twin (k : Interrupt) (r : Word) :
    Twin A (s.stackInterrupt k r) ((s.withMem m).stackInterrupt k r) := by
  have hbank : Twin A (if s.e then s else s.push8 s.pbr) (if s.e then s.withMem m else (s.withMem m).push8 s.pbr) :=
    .ite (fun _ => .mk h) fun _ => (Twin.mk h).push8 s.pbr
  exact (hbank.push16 r).push8 _

theorem takeInterrupt_twin {k : Interrupt} {r : Word}
    (hvector : A (bank0 (k.vector s.e)) ∧ A (bank0 (k.vector s.e + 1))) :
    Twin A (s.takeInterrupt k r) ((s.withMem m).takeInterrupt k r) := by
  have hjumped := (stackInterrupt_twin h k r).jump (·.readWord0 (k.vector s.e)) fun h' => readWord0_withMem h' hvector
  exact hjumped.map (fun t =>
    { t with
      p := { t.p with d := false, i := true }
      pbr := 0
      nmiPending := if k = .nmi then false else t.nmiPending
      abortPending := if k = .abort then false else t.abortPending }) fun h' => h'.registers rfl rfl rfl

theorem jsrIndexed_twin {a : Word} (hr : ReadsWithin A (s.tableAccesses (s.lateOperand a + s.x))) :
    Twin A (s.jsrIndexed a) ((s.withMem m).jsrIndexed a) := by
  have hpushed : Twin A (s.pushNew16 (s.pc + 2)).endNew ((s.withMem m).pushNew16 (s.pc + 2)).endNew :=
    ((Twin.mk h).pushNew16 _).endNew
  unfold jsrIndexed
  rw [lateOperand_withMem]
  refine hpushed.jump (fun t => t.readWordK (s.lateOperand a + t.x)) fun h' => readWordK_withMem h' ?_
  simpa [readsWithin_tableAccesses, withMem] using hr

theorem returnFromInterrupt_twin (hr : ReadsWithin A (s.pullAccesses (if s.e then 3 else 4))) :
    Twin A s.returnFromInterrupt (s.withMem m).returnFromInterrupt := by
  obtain ⟨hstatus, hrest⟩ : ReadsWithin A (s.pullAccesses 1) ∧
      ReadsWithin A ((s.pull8.2.loadP s.pull8.1).pullAccesses (if s.e then 2 else 3)) := by
    rw [pullAccesses_loadP]
    cases he : s.e <;> simpa [he, pullAccesses] using hr
  have hloaded : Twin A (s.pull8.2.loadP s.pull8.1) ((s.withMem m).pull8.2.loadP (s.withMem m).pull8.1) := by
    rw [pull8_withMem h hstatus]
    exact AgreeOn.loadP (s := s.pull8.2) h _
  cases he : s.e with
  | true =>
    rw [he] at hrest
    rw [returnFromInterrupt_emulation s he, returnFromInterrupt_emulation (s.withMem m) he]
    refine hloaded.map (fun t => { t.pull16.2 with pc := t.pull16.1 }) fun h' => ?_
    rw [pull16_withMem h' hrest]
    exact h'.registers rfl rfl rfl
  | false =>
    rw [he] at hrest
    obtain ⟨hpc, hbank⟩ : ReadsWithin A ((s.pull8.2.loadP s.pull8.1).pullAccesses 2) ∧
        ReadsWithin A ((s.pull8.2.loadP s.pull8.1).pull16.2.pullAccesses 1) := readsWithin_append.mp hrest
    rw [returnFromInterrupt_native s he, returnFromInterrupt_native (s.withMem m) he]
    refine hloaded.map (fun t => { t.pull16.2.pull8.2 with pc := t.pull16.1, pbr := t.pull16.2.pull8.1 }) fun h' => ?_
    rw [pull16_withMem h' hpc, pull8_withMem (s := (s.pull8.2.loadP s.pull8.1).pull16.2) h' hbank]
    exact h'.registers rfl rfl rfl

theorem blockStep_twin {delta : Int} {dst src : Byte} (hr : A (mkAddr src s.x)) :
    Twin A (s.blockStep delta dst src) ((s.withMem m).blockStep delta dst src) := by
  have hread : (s.withMem m).readByte (mkAddr src (s.withMem m).x) = s.readByte (mkAddr src s.x) := h _ hr
  have hwidth : (s.withMem m).x8 = s.x8 := rfl
  have hmoved := h.write (mkAddr dst s.y) (s.readByte (mkAddr src s.x))
  unfold blockStep
  dsimp only
  rw [hread, hwidth]
  split <;> exact hmoved.registers rfl rfl rfl

/-! ### `exec` -/

theorem exec_implied_twin {i : Instr} {op : Mnemonic} (hv : i.view = .implied op)
    (hr : ReadsWithin A (s.specialAccesses i)) (ht : exec i s = .next t) (hu : exec i (s.withMem m) = .next u) :
    Twin A t u := by
  have past : AgreeOn A (s.advance 1) m := h
  cases i <;> cases hv <;> cases ht <;> cases hu
  case clc | cld | cli | clv | sec | sed | sei | nop | wai | stp | xba | tcd | tdc | tsc => exact h.registers rfl rfl rfl
  case dex | inx => exact stepX_twin past _
  case dey | iny => exact stepY_twin past _
  case tax | tay | tsx | txa | txy | tya | tyx | tcs | txs | xce =>
    exact .ite (fun _ => h.registers rfl rfl rfl) fun _ => h.registers rfl rfl rfl
  case pha | phx | phy => exact .ite (fun _ => (Twin.mk past).push8 _) fun _ => (Twin.mk past).push16 _
  case phb | phk | php => exact (Twin.mk past).push8 _
  case phd => exact ((Twin.mk past).pushNew16 _).endNew
  case pla => exact pla_twin past (readsWithin_pullAccesses_advance hr)
  case plx => exact plx_twin past (readsWithin_pullAccesses_advance hr)
  case ply => exact ply_twin past (readsWithin_pullAccesses_advance hr)
  case plb => exact plb_twin past hr
  case plp => exact plp_twin past hr
  case pld => exact pld_twin past hr
  case rts => exact rts_twin h hr
  case rtl => exact rtl_twin h hr
  case rti => exact returnFromInterrupt_twin past (readsWithin_pullAccesses_advance hr)

theorem exec_special_twin {i : Instr} {op : Mnemonic} {n : Nat} (hv : i.view = .special op n)
    (hr : ReadsWithin A (s.instrAccesses i)) (ht : exec i s = .next t) (hu : exec i (s.withMem m) = .next u) :
    Twin A t u := by
  cases i <;> cases hv <;> cases ht <;> cases hu
  case jsrAbsXInd => exact jsrIndexed_twin h (readsWithin_append.mp hr).2
  all_goals replace hr := (readsWithin_append.mp hr).2
  case jmpAbs | jmpLong | brl | rep | reserved42 => exact h.registers rfl rfl rfl
  case jmpAbsInd a =>
    exact (Twin.mk h).jump (·.readWord0 a) fun h => readWord0_withMem h (readsWithin_bank0Reads_two.mp hr)
  case jmpAbsXInd a =>
    exact (Twin.mk h).jump (fun t => t.readWordK (a + t.x)) fun h =>
      readWordK_withMem h (readsWithin_tableAccesses.mp hr)
  case jml a =>
    rw [readAddr0_withMem h (readsWithin_bank0Reads_three.mp hr)]
    exact h.registers rfl rfl rfl
  case jsrAbs a => exact ((Twin.mk h).push16 _).jump (fun _ => a) fun _ => rfl
  case jsl => exact callLong_twin h _
  case pea | per => exact ((Twin.mk (s := s.advance 3) h).pushNew16 _).endNew
  case pei o =>
    have hvalue : (s.withMem m).readWord0 ((s.withMem m).dirAddr o) = s.readWord0 (s.dirAddr o) :=
      readWord0_withMem h (readsWithin_bank0Reads_two.mp (readsWithin_append.mp hr).1)
    rw [hvalue]
    exact ((Twin.mk (s := s.advance 2) h).pushNew16 _).endNew
  case mvn | mvp => exact blockStep_twin h ((readsWithin_cons_read (k := .data) nofun nofun).mp hr).1
  case sep => exact AgreeOn.truncateIndex (s := { s.advance 2 with p := s.p.setBits s.e _ }) h
  case brk | cop =>
    have hvector := readsWithin_interruptAccesses (s := s) (r := s.pc + 2) hr
    exact takeInterrupt_twin (s := s.advance 2) h hvector

/-- With another memory that agrees on the data reads, an instruction leaves a state that differs in memory alone, and there
not on these addresses (R72, R74). -/
theorem exec_twin {i : Instr} (hr : ReadsWithin A (s.instrAccesses i)) (ht : exec i s = .next t)
    (hu : exec i (s.withMem m) = .next u) : Twin A t u := by
  have past : AgreeOn A (s.advance i.length) m := h
  have hdata (hv : ∀ op n, i.view ≠ .special op n) : ReadsWithin A (s.dataAccesses i) := by
    rw [s.instrAccesses_of_ne (by rintro a rfl; exact hv _ _ rfl)] at hr
    exact (readsWithin_append.mp hr).2
  cases hv : i.view with
  | read op src =>
    cases (exec_of_view_read hv s).symm.trans ht
    cases (exec_of_view_read hv _).symm.trans hu
    have hsource : ReadsWithin A (s.sourceAccesses (s.narrowFor op) src) := by
      simpa only [dataAccesses, hv] using hdata (by simp [hv])
    exact readOp_twin past (by rwa [sourceAccesses_advance])
  | write op md =>
    cases (exec_of_view_write hv s).symm.trans ht
    cases (exec_of_view_write hv _).symm.trans hu
    obtain ⟨hpointer, -⟩ : ReadsWithin A (s.pointerAccesses md) ∧
        ReadsWithin A (placeWrites (s.narrowFor op) (s.place md) (s.storeValue op)) := by
      simpa only [dataAccesses, hv, readsWithin_append] using hdata (by simp [hv])
    exact writeOp_twin past op (by rwa [pointerAccesses_advance])
  | modify op md =>
    cases (exec_of_view_modify hv s).symm.trans ht
    cases (exec_of_view_modify hv _).symm.trans hu
    obtain ⟨hpointer, hmodify⟩ : ReadsWithin A (s.pointerAccesses md) ∧
        ReadsWithin A (s.modifyAccesses (rmwOf op) (s.place md)) := by
      simpa only [dataAccesses, hv, readsWithin_append] using hdata (by simp [hv])
    refine modifyMem_twin past _ (by rwa [pointerAccesses_advance]) ?_
    rw [advance_place]
    exact readsWithin_modifyAccesses hmodify
  | acc op =>
    cases (exec_of_view_acc hv s).symm.trans ht
    cases (exec_of_view_acc hv _).symm.trans hu
    exact .ite (fun _ => h.registers rfl rfl rfl) fun _ => h.registers rfl rfl rfl
  | branch op r =>
    cases (exec_of_view_branch hv s).symm.trans ht
    cases (exec_of_view_branch hv _).symm.trans hu
    exact .ite (fun _ => h.registers rfl rfl rfl) fun _ => h.registers rfl rfl rfl
  | implied op =>
    refine exec_implied_twin h hv ?_ ht hu
    simpa only [dataAccesses, hv] using hdata (by simp [hv])
  | special op n => exact exec_special_twin h hv hr ht hu

/-! ### Accesses of an instruction -/

theorem sourceAccesses_withMem {narrow : Bool} {src : Src} (hr : ReadsWithin A (s.sourceAccesses narrow src)) :
    (s.withMem m).sourceAccesses narrow src = s.sourceAccesses narrow src := by
  cases src with
  | imm w => rfl
  | mem md =>
    obtain ⟨hpointer, -⟩ := readsWithin_append.mp hr
    simp only [sourceAccesses, pointerAccesses_withMem, place_withMem h hpointer]

theorem modifyAccesses_withMem {f : RmwFn} {pl : Place} (hr : ReadsWithin A (placeReads s.m8 pl)) :
    (s.withMem m).modifyAccesses f pl = s.modifyAccesses f pl := by
  have hwidth : (s.withMem m).m8 = s.m8 := rfl
  unfold modifyAccesses
  rw [hwidth]
  cases hn : s.m8 with
  | true =>
    rw [load8_withMem h (hn ▸ hr)]
    rfl
  | false =>
    rw [load16_withMem h (hn ▸ hr)]
    rfl

theorem specialAccesses_withMem {i : Instr} (hr : ReadsWithin A (s.specialAccesses i)) :
    (s.withMem m).specialAccesses i = s.specialAccesses i := by
  cases i
  case pha | phx | phy | phb | phk | php | jsrAbs => exact pushAccesses_withMem _
  case pla | plx | ply | plb | plp | rts | rti => exact pullAccesses_withMem _
  case brk | cop => exact s.interruptAccesses_mem m _ _
  case pei o =>
    have hvalue : (s.withMem m).readWord0 (s.dirAddr o) = s.readWord0 (s.dirAddr o) :=
      readWord0_withMem h (readsWithin_bank0Reads_two.mp (readsWithin_append.mp hr).1)
    exact congrArg (fun w => bank0Reads (s.dirAddr o) 2 ++ s.pushNewAccesses [hiByte w, loByte w]) hvalue
  case mvn dst src | mvp dst src =>
    have hbyte := h _ ((readsWithin_cons_read (k := .data) nofun nofun).mp hr).1
    exact congrArg (fun b => [Access.read .data (mkAddr src s.x), Access.write (mkAddr dst s.y) b]) hbyte
  all_goals rfl

theorem dataAccesses_withMem {i : Instr} (hr : ReadsWithin A (s.dataAccesses i)) :
    (s.withMem m).dataAccesses i = s.dataAccesses i := by
  unfold dataAccesses at hr ⊢
  cases hv : i.view with
  | read op src =>
    simp only [hv] at hr ⊢
    exact sourceAccesses_withMem h hr
  | write op md =>
    simp only [hv, readsWithin_append] at hr ⊢
    obtain ⟨hpointer, -⟩ := hr
    rw [pointerAccesses_withMem, place_withMem h hpointer]
    rfl
  | modify op md =>
    simp only [hv, readsWithin_append] at hr ⊢
    obtain ⟨hpointer, hmodify⟩ := hr
    rw [pointerAccesses_withMem, place_withMem h hpointer,
      modifyAccesses_withMem h (readsWithin_modifyAccesses hmodify)]
  | acc op => rfl
  | branch op r => rfl
  | implied op =>
    simp only [hv] at hr ⊢
    exact specialAccesses_withMem h hr
  | special op n =>
    simp only [hv] at hr ⊢
    exact specialAccesses_withMem h hr

/-- With another memory that agrees on its data reads, an instruction has the same accesses (R72, R74). -/
theorem instrAccesses_withMem {i : Instr} (hr : ReadsWithin A (s.instrAccesses i)) :
    (s.withMem m).instrAccesses i = s.instrAccesses i := by
  by_cases hindexed : ∃ a, i = .jsrAbsXInd a
  · obtain ⟨a, rfl⟩ := hindexed
    rw [instrAccesses_jsrAbsXInd, instrAccesses_jsrAbsXInd, lateOperand_withMem]
    rfl
  · have hne (a : Word) : i ≠ .jsrAbsXInd a := fun ha => hindexed ⟨a, ha⟩
    rw [instrAccesses_of_ne _ hne] at hr
    rw [instrAccesses_of_ne _ hne, instrAccesses_of_ne _ hne,
      dataAccesses_withMem h (readsWithin_append.mp hr).2]
    rfl

end State
end Sys2Proof.Machine

namespace Sys2Proof

open Sys2Proof.Machine Sys2Proof.Claims

/-- Settles O23: the states and the accesses follow from the agreement on the addresses of the data reads. -/
theorem busReadsDecideResult : Obligations.BusReadsDecideResult := by
  intro i s m hagree
  obtain ⟨t, ht⟩ := exec_next i s
  obtain ⟨u, hu⟩ := exec_next i (s.withMem m)
  have h : State.AgreeOn (State.DataReadAddr s i) s m := by
    rintro _ ⟨x, hx, hread, rfl⟩
    exact hagree x hx hread
  have hr : ReadsWithin (State.DataReadAddr s i) (s.instrAccesses i) := fun x hx hread => ⟨x, hx, hread, rfl⟩
  obtain ⟨-⟩ := State.exec_twin h hr ht hu
  exact ⟨t, _, ht, hu, rfl, State.instrAccesses_withMem h hr⟩

end Sys2Proof
end

section
/-! PROOFS. The decoder inverted: the operand bytes each layout takes (R91 to R93), and the opcode matrix cell by cell as the
encoder has it (R97). -/

namespace Sys2Proof

/-! ### What the decoder has taken -/

variable {m8 x8 sel : Bool} {bytes rest : List Byte} {i : Instr}

/-- One operand byte has been taken. -/
theorem takeByte_eq_ok {f : Byte → Instr} (h : takeByte f bytes = .ok (i, rest)) :
    ∃ b, bytes = [b] ++ rest ∧ i = f b := by
  match bytes, h with
  | b :: _, rfl => exact ⟨b, rfl, rfl⟩

/-- Two operand bytes have been taken, the low byte first (R92). -/
theorem takeWord_eq_ok {f : Word → Instr} (h : takeWord f bytes = .ok (i, rest)) :
    ∃ v, bytes = wordBytes v ++ rest ∧ i = f v := by
  match bytes, h with
  | lo :: hi :: _, rfl => exact ⟨mkWord hi lo, by simp [wordBytes], rfl⟩

@[simp] theorem addrBank_mkAddr (bank : Byte) (off : Word) : addrBank (mkAddr bank off) = bank :=
  BitVec.extractLsb'_append_eq_left

@[simp] theorem addrOff_mkAddr (bank : Byte) (off : Word) : addrOff (mkAddr bank off) = off :=
  BitVec.extractLsb'_append_eq_right

/-- Three operand bytes have been taken: low, high, bank (R92). -/
theorem takeAddr_eq_ok {f : Addr → Instr} (h : takeAddr f bytes = .ok (i, rest)) :
    ∃ a, bytes = addrBytes a ++ rest ∧ i = f a := by
  match bytes, h with
  | lo :: hi :: bank :: _, rfl =>
    exact ⟨mkAddr bank (mkWord hi lo), by simp [addrBytes], rfl⟩

/-- Two bank bytes have been taken, the destination first (R91). -/
theorem takeBanks_eq_ok {f : Byte → Byte → Instr} (h : takeBanks f bytes = .ok (i, rest)) :
    ∃ dst src, bytes = [dst, src] ++ rest ∧ i = f dst src := by
  match bytes, h with
  | dst :: src :: _, rfl => exact ⟨dst, src, rfl, rfl⟩

/-- The immediate taken has the selected width (R93). -/
theorem takeImm_eq_ok {f : Imm → Instr} (h : takeImm sel f bytes = .ok (i, rest)) :
    ∃ v : Imm, bytes = v.encode ++ rest ∧ v.fits sel = true ∧ i = f v := by
  cases sel with
  | true =>
    obtain ⟨b, hbytes, hi⟩ := takeByte_eq_ok (f := fun b => f (.byte b)) h
    exact ⟨.byte b, hbytes, rfl, hi⟩
  | false =>
    obtain ⟨v, hbytes, hi⟩ := takeWord_eq_ok (f := fun v => f (.word v)) h
    exact ⟨.word v, hbytes, rfl, hi⟩

/-- What the decoder answers is what the cell of the first byte makes of the bytes between it and the rest. -/
theorem makes_of_decode (h : decode m8 x8 bytes = .ok (i, rest)) :
    ∃ op operand, bytes = op :: operand ++ rest ∧ (rowOf op).Makes m8 x8 i operand := by
  cases bytes with
  | nil => cases h
  | cons op tail =>
    suffices ∃ operand, tail = operand ++ rest ∧ (rowOf op).Makes m8 x8 i operand by
      obtain ⟨operand, rfl, hmakes⟩ := this
      exact ⟨op, operand, rfl, hmakes⟩
    rw [decode] at h
    generalize rowOf op = row at h ⊢
    cases row with
    | none j =>
      cases h
      exact ⟨[], rfl, .none i⟩
    | byte f =>
      obtain ⟨b, rfl, rfl⟩ := takeByte_eq_ok h
      exact ⟨_, rfl, .byte f b⟩
    | word f =>
      obtain ⟨v, rfl, rfl⟩ := takeWord_eq_ok h
      exact ⟨_, rfl, .word f v⟩
    | addr f =>
      obtain ⟨a, rfl, rfl⟩ := takeAddr_eq_ok h
      exact ⟨_, rfl, .addr f a⟩
    | banks f =>
      obtain ⟨dst, src, rfl, rfl⟩ := takeBanks_eq_ok h
      exact ⟨_, rfl, .banks f dst src⟩
    | immM f =>
      obtain ⟨v, rfl, fits, rfl⟩ := takeImm_eq_ok h
      exact ⟨_, rfl, .immM f v fits⟩
    | immX f =>
      obtain ⟨v, rfl, fits, rfl⟩ := takeImm_eq_ok h
      exact ⟨_, rfl, .immX f v fits⟩

/-! ### The matrix as the encoder has it -/

/-- The instructions of the cell are encoded with the opcode `op`, ask for the width the cell's layout selects by, and have
the length of R95. -/
def Row.EncodedAs (m8 x8 : Bool) (op : Byte) : Row → Prop
  | .none i => encode i = [op] ∧ i.wf m8 x8 = true ∧ i.length = 1
  | .byte f => ∀ b, encode (f b) = [op, b] ∧ (f b).wf m8 x8 = true ∧ (f b).length = 2
  | .word f => ∀ v, encode (f v) = op :: wordBytes v ∧ (f v).wf m8 x8 = true ∧ (f v).length = 3
  | .addr f => ∀ a, encode (f a) = op :: addrBytes a ∧ (f a).wf m8 x8 = true ∧ (f a).length = 4
  | .banks f => ∀ dst src,
    encode (f dst src) = [op, dst, src] ∧ (f dst src).wf m8 x8 = true ∧ (f dst src).length = 3
  | .immM f => ∀ v, encode (f v) = op :: v.encode ∧ (f v).wf m8 x8 = v.fits m8 ∧ (f v).length = 1 + v.bytes
  | .immX f => ∀ v, encode (f v) = op :: v.encode ∧ (f v).wf m8 x8 = v.fits x8 ∧ (f v).length = 1 + v.bytes

/-- Every cell of the matrix stands at the opcode its instructions are encoded with: the 256 opcodes one by one (R97). -/
theorem rowOf_encodedAs (m8 x8 : Bool) (op : Byte) : (rowOf op).EncodedAs m8 x8 op := by
  obtain ⟨n, hn, rfl⟩ : ∃ n < 2 ^ 8, op = BitVec.ofNat 8 n := ⟨op.toNat, op.isLt, by simp⟩
  interval_cases n <;> (repeat intro) <;> exact .intro rfl (.intro rfl rfl)

/-- An immediate that fits its selector makes an instruction well formed, and is as long as its encoding (R93). -/
theorem encodedAs_of_fits {op : Byte} {v : Imm} (fits : v.fits sel = true)
    (hv : encode i = op :: v.encode ∧ i.wf m8 x8 = v.fits sel ∧ i.length = 1 + v.bytes) :
    encode i = op :: v.encode ∧ i.wf m8 x8 = true ∧ i.length = 1 + v.encode.length := by
  obtain ⟨henc, hwf, hlen⟩ := hv
  rw [Laws.EncodeLength.imm_encode_length]
  exact ⟨henc, hwf.trans fits, hlen⟩

/-- What a cell makes of operand bytes is encoded as the cell's opcode and those bytes, and is well formed (R97). -/
theorem encode_of_makes {op : Byte} {operand : List Byte} (h : (rowOf op).Makes m8 x8 i operand) :
    encode i = op :: operand ∧ i.wf m8 x8 = true ∧ i.length = 1 + operand.length := by
  have hcell := rowOf_encodedAs m8 x8 op
  generalize rowOf op = row at h hcell
  cases h with
  | none i => exact hcell
  | byte f b => exact hcell b
  | word f v => exact hcell v
  | addr f a => exact hcell a
  | banks f dst src => exact hcell dst src
  | immM f v fits => exact encodedAs_of_fits fits (hcell v)
  | immX f v fits => exact encodedAs_of_fits fits (hcell v)

/-- Settles O1: the encoding is an opcode and what its cell asks for, which the decoder reads back. -/
theorem decodeOfEncode : Obligations.DecodeOfEncode :=
  fun _ _ _ rest hwf => decode_encode_append hwf rest

/-- Settles O2: the decoder answers what a cell of the matrix makes, and every cell stands at its instructions' opcode. -/
theorem encodeOfDecode : Obligations.EncodeOfDecode := by
  intro m8 x8 bytes i rest hdecode
  obtain ⟨op, operand, rfl, hmakes⟩ := makes_of_decode hdecode
  obtain ⟨henc, hwf, hlen⟩ := encode_of_makes hmakes
  have hthree : operand.length ≤ 3 := hmakes.length_le
  rw [henc, hlen, List.length_cons]
  exact ⟨rfl, hwf, by omega, by omega⟩

/-- Settles O4, by evaluation. -/
theorem sampleWordsDecode : Obligations.SampleWordsDecode := ⟨rfl, rfl, rfl, rfl, rfl, rfl, rfl, rfl⟩

end Sys2Proof
end

section
/-! PROOFS. The rows and columns of the opcode matrix of R97, read off the view of an instruction (R138). -/

namespace Sys2Proof.Claims

open Sys2Proof Sys2Proof.Machine

/-- The row base and the column of an instruction that stands in a regular row and column of the matrix, by its view. -/
def regularCell : View → Option (Nat × Nat)
  | .read op (.mem m) => (accumulatorRow op).map (·, accumulatorColumn m)
  | .read op (.imm _) => (accumulatorRow op).map (·, 0x09)
  | .write op m => (accumulatorRow op).map (·, accumulatorColumn m)
  | .modify op m => (shiftRow op).map (·, shiftColumn m)
  | _ => none

/-- The instruction has the opcode at its regular cell, and its mode is one of that row's, or it has no such cell. -/
def AtRegularCell (i : Instr) : Prop :=
  (regularCell i.view).all fun (base, column) =>
    (encode i).head? == some (BitVec.ofNat 8 (base + column)) && column != 0xFF

/-- Every instruction that its view puts in a regular row and column has the opcode found there (R97). -/
theorem atRegularCell (i : Instr) : AtRegularCell i := by
  cases i <;> exact rfl

/-- The opcode at a given regular cell, with row and column named. -/
theorem opcode_of_regularCell {i : Instr} {base column : Nat} (h : regularCell i.view = some (base, column)) :
    (encode i).head? = some (BitVec.ofNat 8 (base + column)) ∧ column ≠ 0xFF := by
  simpa [AtRegularCell, h] using atRegularCell i

/-- Settles O3: the regular rows by the cell of each view, the irregular rows and single encodings read off row by row. -/
theorem opcodeMatrix : Obligations.OpcodeMatrix := by
  refine ⟨?memory, ?immediate, ?shift, ?irregular, ?single⟩
  case memory =>
    rintro i op m base hrow (hview | hview) <;> exact opcode_of_regularCell (by simp [hview, regularCell, hrow])
  case immediate =>
    intro i op v base hrow hview
    exact (opcode_of_regularCell (column := 0x09) (by simp [hview, regularCell, hrow])).1
  case shift =>
    intro i op m base hrow hview
    exact opcode_of_regularCell (by simp [hview, regularCell, hrow])
  case irregular =>
    intro v o a row hrow
    have hrows : (irregularRows v o a).map (fun row => (row.1.view, (encode row.1).head?)) =
        (irregularRows v o a).map (fun row => (row.2.1, some row.2.2)) := rfl
    exact Prod.mk.inj (List.map_inj_left.mp hrows row hrow)
  case single =>
    intro o1 o2 a l
    have hrows : (singleEncodings o1 o2 a l).map (fun row => encode row.1) =
        (singleEncodings o1 o2 a l).map (fun row => row.2) := rfl
    exact List.map_inj_left.mp hrows

end Sys2Proof.Claims
end

section
/-! PROOFS. Every step has a next state: the fetch always finds an instruction, and every instruction answers (R97, R310). -/

namespace Sys2Proof

open Sys2Proof.Machine

/-- An instruction under no ABORT in time answers a next state, whether a late ABORT hits it or not (R314). -/
theorem runUnaborted_next (s : State) (late : Nat) : ∃ t, s.runUnaborted late = .next t := by
  obtain ⟨i, t, -, -, ⟨-, hwhole⟩ | ⟨n, -, -, hlate⟩⟩ := runUnaborted_cases s late
  · exact ⟨t, hwhole⟩
  · exact ⟨_, hlate⟩

/-- Whatever the boundary chooses, it answers a next state (R316, R317). -/
theorem boundary_next (s : State) (inp : StepInput) : ∃ t, s.boundary inp = .next t := by
  rcases boundary_cases s inp with ⟨-, hreset⟩ | ⟨-, hstopped⟩ | ⟨-, hwaiting⟩ | ⟨-, i, t, -, -, haborted⟩ |
    ⟨-, -, hnmi⟩ | ⟨-, -, -, hirq⟩ | ⟨-, hrun⟩
  · exact ⟨_, hreset⟩
  · exact ⟨_, hstopped⟩
  · exact ⟨_, hwaiting⟩
  · exact ⟨_, haborted⟩
  · exact ⟨_, hnmi⟩
  · exact ⟨_, hirq⟩
  · rw [hrun]
    exact runUnaborted_next s _

/-- Settles O10: a step is the boundary after the events between the steps, and every boundary answers. -/
theorem stepAlwaysHasNext : Obligations.StepAlwaysHasNext :=
  fun s => boundary_next (s.takeEvents s.input) s.input

end Sys2Proof
end

section
/-! PROOFS. Bytes, words and addresses as the numbers they denote (R8, R60, R92), and from them the effective addresses of
every memory mode with its wrap kind (R113, R117 to R129, R135, R136). -/

namespace Sys2Proof

/-! ### Byte order and fields as arithmetic -/

@[simp] theorem toNat_loByte (v : Word) : (loByte v).toNat = v.toNat % 256 := by simp [loByte]

@[simp] theorem toNat_hiByte (v : Word) : (hiByte v).toNat = v.toNat / 256 := by
  have hv : v.toNat < 2 ^ 16 := v.isLt
  simp only [hiByte, BitVec.extractLsb'_toNat, Nat.shiftRight_eq_div_pow]
  omega

theorem toNat_append_eq_add {v w : Nat} (hi : BitVec v) (lo : BitVec w) :
    (hi ++ lo).toNat = 2 ^ w * hi.toNat + lo.toNat := by
  rw [BitVec.toNat_append, ← Nat.shiftLeft_add_eq_or_of_lt lo.isLt, Nat.shiftLeft_eq, Nat.mul_comm]

@[simp] theorem toNat_mkWord (hi lo : Byte) : (mkWord hi lo).toNat = 256 * hi.toNat + lo.toNat :=
  toNat_append_eq_add hi lo

@[simp] theorem toNat_mkAddr (bank : Byte) (off : Word) :
    (mkAddr bank off).toNat = 65536 * bank.toNat + off.toNat :=
  toNat_append_eq_add bank off

@[simp] theorem toNat_zext16 (b : Byte) : (zext16 b).toNat = b.toNat := BitVec.toNat_setWidth_of_le (by decide)

@[simp] theorem toNat_zext24 (v : Word) : (zext24 v).toNat = v.toNat := BitVec.toNat_setWidth_of_le (by decide)

/-- A word is fixed by its number modulo 2^16. -/
theorem word_eq_ofNat {v : Word} {n : Nat} (h : v.toNat % 65536 = n % 65536) : v = BitVec.ofNat 16 n := by
  apply BitVec.eq_of_toNat_eq
  rw [BitVec.toNat_ofNat, ← h, Nat.mod_eq_of_lt v.isLt]

/-- Indexing an address carries into the bank, modulo 2^24 (R66, R69). -/
theorem add_zext24 (a : Addr) (v : Word) : a + zext24 v = BitVec.ofNat 24 (a.toNat + v.toNat) := by
  rw [BitVec.ofNat_add, BitVec.ofNat_toNat, BitVec.ofNat_toNat, BitVec.setWidth_eq]
  rfl

theorem mkAddr_eq_ofNat (bank : Byte) (off : Word) :
    mkAddr bank off = BitVec.ofNat 24 (65536 * bank.toNat + off.toNat) := by
  rw [← toNat_mkAddr, BitVec.ofNat_toNat, BitVec.setWidth_eq]

namespace Machine

theorem bank0_eq_ofNat (w : Word) : bank0 w = BitVec.ofNat 24 (w.toNat % 65536) := by
  have hw : w.toNat < 65536 := w.isLt
  rw [bank0, mkAddr_eq_ofNat, Nat.mod_eq_of_lt hw]
  simp

namespace State

variable (s : State)

/-! ### Pages (R113) -/

theorem dwrap_eq : s.dwrap = (s.e && decide (s.d.toNat % 256 = 0)) := by
  rw [dwrap, ← toNat_loByte]
  congr 2
  exact propext (BitVec.toNat_inj (y := 0#8)).symm

theorem toNat_dirAddr (o : Byte) : (s.dirAddr o).toNat = (s.d.toNat + o.toNat) % 65536 := by simp [dirAddr]

theorem toNat_stkAddr (o : Byte) : (s.stkAddr o).toNat = (s.sp.toNat + o.toNat) % 65536 := by simp [stkAddr]

/-- `DirIdx` stays in the page of D while `dwrap` holds, and in bank 00 otherwise. -/
theorem toNat_dirIdx (o : Byte) (idx : Word) :
    (s.dirIdx o idx).toNat =
      if s.dwrap then s.d.toNat + (o.toNat + idx.toNat) % 256 else (s.d.toNat + o.toNat + idx.toNat) % 65536 := by
  unfold dirIdx
  cases hw : s.dwrap with
  | true =>
    obtain ⟨-, hpage⟩ : s.e = true ∧ s.d.toNat % 256 = 0 := by simpa [dwrap_eq] using hw
    simp only [if_true, toNat_mkWord, toNat_hiByte, BitVec.toNat_add, toNat_loByte, Nat.add_mod_mod]
    omega
  | false => simp

/-- The second byte of a direct pointer stays in the pointer's page while `dwrap` holds, and in bank 00 otherwise. -/
theorem toNat_dirPtrSecond (p : Word) :
    (s.dirPtrSecond p).toNat =
      if s.dwrap then p.toNat / 256 * 256 + (p.toNat + 1) % 256 else (p.toNat + 1) % 65536 := by
  unfold dirPtrSecond
  cases s.dwrap with
  | true =>
    simp only [if_true, toNat_mkWord, toNat_hiByte, BitVec.toNat_add, toNat_loByte,
      BitVec.ofNat_eq_ofNat, BitVec.toNat_ofNat]
    omega
  | false => simp

/-! ### Pointers and operands, low byte first (R62, R125 to R129, R136, R150) -/

theorem toNat_dirPtr16 (p : Word) :
    (s.dirPtr16 p).toNat =
      (s.readByte (bank0 p)).toNat + 256 * (s.readByte (bank0 (s.dirPtrSecond p))).toNat :=
  (toNat_mkWord _ _).trans (Nat.add_comm _ _)

theorem toNat_readWord0 (p : Word) :
    (s.readWord0 p).toNat = (s.readByte (bank0 p)).toNat + 256 * (s.readByte (bank0 (p + 1))).toNat :=
  (toNat_mkWord _ _).trans (Nat.add_comm _ _)

theorem toNat_readAddr0 (p : Word) :
    (s.readAddr0 p).toNat = (s.readByte (bank0 p)).toNat + 256 * (s.readByte (bank0 (p + 1))).toNat +
      65536 * (s.readByte (bank0 (p + 2))).toNat := by
  rw [readAddr0, toNat_mkAddr, toNat_readWord0, Nat.add_comm]

theorem toNat_load16 (pl : Place) :
    (s.load16 pl).toNat = (s.readByte pl.first).toNat + 256 * (s.readByte pl.second).toNat :=
  (toNat_mkWord _ _).trans (Nat.add_comm _ _)

end State
end Machine

open Sys2Proof.Machine

/-- Settles O27: each offset as a number modulo 2^16, with `DirIdx` in the page of D or in bank 00. -/
theorem directAddresses : Obligations.DirectAddresses := by
  intro s o
  have hdir : s.dirAddr o = BitVec.ofNat 16 (s.d.toNat + o.toNat) := word_eq_ofNat (by simp [State.toNat_dirAddr])
  have hstk : s.stkAddr o = BitVec.ofNat 16 (s.sp.toNat + o.toNat) := word_eq_ofNat (by simp [State.toNat_stkAddr])
  refine ⟨congrArg Place.bank0 hdir, congrArg Place.bank0 hstk, fun he hpage => ?page, fun hbank => ?bank⟩
  case page =>
    have hwrap : s.dwrap = true := by simp [State.dwrap_eq, he, hpage]
    have hidx (v : Word) : s.dirIdx o v = BitVec.ofNat 16 (s.d.toNat + (o.toNat + v.toNat) % 256) :=
      word_eq_ofNat (by rw [s.toNat_dirIdx, if_pos hwrap])
    exact ⟨congrArg Place.bank0 (hidx s.x), congrArg Place.bank0 (hidx s.y)⟩
  case bank =>
    have hwrap : ¬s.dwrap = true := by rcases hbank with he | hpage <;> simp [State.dwrap_eq, *]
    have hidx (v : Word) : s.dirIdx o v = BitVec.ofNat 16 (s.d.toNat + o.toNat + v.toNat) :=
      word_eq_ofNat (by rw [s.toNat_dirIdx, if_neg hwrap, Nat.mod_mod])
    exact ⟨congrArg Place.bank0 (hidx s.x), congrArg Place.bank0 (hidx s.y)⟩

/-- Settles O28: the pointer each mode reads, as a number, then the bank and the index added to it. -/
theorem indirectAddresses : Obligations.IndirectAddresses := by
  intro s o byteAt wrapped next word far p px ps
  have hbyte {q : Word} {n : Nat} (h : q.toNat % 65536 = n % 65536) : (s.readByte (bank0 q)).toNat = byteAt n := by
    rw [bank0_eq_ofNat, h]
  have hp : (s.dirAddr o).toNat = p := s.toNat_dirAddr o
  have hps : (s.stkAddr o).toNat = ps := s.toNat_stkAddr o
  have hwrap : s.dwrap = wrapped := s.dwrap_eq
  have hpx : (s.dirIdx o s.x).toNat = px := by rw [s.toNat_dirIdx, hwrap]
  have hnext (q : Word) : (s.dirPtrSecond q).toNat = next q.toNat := by rw [s.toNat_dirPtrSecond, hwrap]
  have hword (q : Word) : (s.dirPtr16 q).toNat = word q.toNat := by
    rw [s.toNat_dirPtr16, hbyte rfl, hbyte (congrArg (· % 65536) (hnext q))]
  have hword0 (q : Word) : (s.readWord0 q).toNat = byteAt q.toNat + 256 * byteAt (q.toNat + 1) := by
    rw [s.toNat_readWord0, hbyte rfl, hbyte (n := q.toNat + 1) (by simp)]
  have hfar (q : Word) : (s.readAddr0 q).toNat = far q.toNat := by
    rw [s.toNat_readAddr0, hbyte rfl, hbyte (n := q.toNat + 1) (by simp), hbyte (n := q.toNat + 2) (by simp)]
  refine ⟨congrArg Place.long ?dirInd, congrArg Place.long ?dirXInd, congrArg Place.long ?dirIndY,
    congrArg Place.long ?dirIndLong, congrArg Place.long ?dirIndLongY, congrArg Place.long ?stkRelIndY⟩
  case dirInd => rw [mkAddr_eq_ofNat, hword, hp]
  case dirXInd => rw [mkAddr_eq_ofNat, hword, hpx]
  case dirIndY => rw [add_zext24, toNat_mkAddr, hword, hp]
  case dirIndLong => rw [← hp, ← hfar, BitVec.ofNat_toNat, BitVec.setWidth_eq]
  case dirIndLongY => rw [add_zext24, hfar, hp]
  case stkRelIndY => rw [add_zext24, toNat_mkAddr, hword0, hps, ← Nat.add_assoc]

/-- Settles O26: an address of the absolute and long modes is the operand's own, or that plus the index. -/
theorem absoluteAddressesAndOperands : Obligations.AbsoluteAddressesAndOperands := by
  refine ⟨fun s a l => ?addresses, fun s m => ?bytes, fun s v w => ⟨rfl, rfl⟩, fun l w => ?second,
    fun a => ⟨rfl, rfl⟩⟩
  case addresses =>
    have habs (v : Word) :
        mkAddr s.dbr a + zext24 v = BitVec.ofNat 24 (s.dbr.toNat * 65536 + a.toNat + v.toNat) := by
      rw [add_zext24, toNat_mkAddr, Nat.mul_comm]
    exact ⟨rfl, congrArg Place.long (habs s.x), congrArg Place.long (habs s.y), rfl,
      congrArg Place.long (add_zext24 l s.x)⟩
  case bytes => exact ⟨rfl, s.toNat_load16 (s.place m)⟩
  case second => exact ⟨add_zext24 l 1, (bank0_eq_ofNat (w + 1)).trans (by simp)⟩

end Sys2Proof
end

section
/-! PROOFS. Where the jumps go: the operand itself, or the pointer it leads to (R131, R133, R270 to R272). -/

namespace Sys2Proof

open Sys2Proof.Machine

/-- A long jump to `bank:offset` takes PC and PBR from it and leaves the rest (R271, R272). -/
theorem Machine.State.jumpLong_mkAddr (s : State) (bank : Byte) (off : Word) :
    s.jumpLong (mkAddr bank off) = { s with pc := off, pbr := bank } := by
  rw [State.jumpLong, addrOff_mkAddr, addrBank_mkAddr]

/-- Settles O51: BRL modulo 2^16, the long jumps by their bank and offset, the others as they are defined. -/
theorem jumpTargets : Obligations.JumpTargets := by
  intro s
  refine ⟨fun r => ?brl, fun a => rfl, fun a => rfl, fun a => rfl, fun bank a => ?jmpLong, fun a => ?jml⟩
  case brl =>
    have hpc : s.pc + 3 + r = BitVec.ofNat 16 (s.pc.toNat + 3 + r.toNat) := word_eq_ofNat (by simp)
    exact congrArg (fun pc => Host.Outcome.next { s with pc := pc }) hpc
  case jmpLong => exact congrArg Host.Outcome.next (s.jumpLong_mkAddr bank a)
  case jml => exact congrArg Host.Outcome.next (s.jumpLong_mkAddr (s.readByte (bank0 (a + 2))) (s.readWord0 a))

end Sys2Proof
end

section
/-! PROOFS. Which instructions only read (R158, R171, R189, R223): their accesses hold no write, and memory is what the
accesses leave (R72). -/

namespace Sys2Proof.Machine.State

open Sys2Proof Sys2Proof.Claims

variable (s : State) {i : Instr} {op : Mnemonic}

/-- An instruction that is its opcode alone writes by a push, or not at all. -/
theorem implied_accesses_reads (hv : i.view = .implied op) (hop : op ∉ storingMnemonics) :
    ∀ x ∈ s.specialAccesses i, x.written = none := by
  cases i <;> cases hv
  case pha | phb | phd | phk | php | phx | phy => exact absurd (by decide) hop
  case pla | plx | ply | plb | plp | rts | rti => exact s.pullAccesses_reads _
  case pld | rtl => exact s.pullNewAccesses_reads _
  all_goals nofun

/-- Any other instruction without an operand in the sense of `View` writes by a call, a push, a trap or a block move, or not
at all. -/
theorem special_accesses_reads {n : Nat} (hv : i.view = .special op n) (hop : op ∉ storingMnemonics) :
    ∀ x ∈ s.specialAccesses i, x.written = none := by
  cases i <;> cases hv
  case jsrAbs | jsrAbsXInd | jsl | pea | pei | per | brk | cop | mvn | mvp => exact absurd (by decide) hop
  case jmpAbsInd | jml => exact bank0Reads_reads _ _
  case jmpAbsXInd => exact s.tableAccesses_reads _
  case jmpAbs | jmpLong | brl | rep | sep | reserved42 => nofun

/-- An instruction that stores nothing reads its operand at most. -/
theorem dataAccesses_reads (h : i.mnemonic ∉ storingMnemonics ∨ ∃ op, i.view = .acc op) :
    ∀ x ∈ s.dataAccesses i, x.written = none := by
  have hstores : ∀ op ∈ [Mnemonic.STA, .STX, .STY, .STZ] ++ modifyMnemonics, op ∈ storingMnemonics := by decide
  unfold Instr.mnemonic at h
  unfold dataAccesses
  cases hv : i.view with rw [hv] at h
  | acc op => nofun
  | branch op r => nofun
  | read op src => exact s.sourceAccesses_reads _ src
  | write op m => exact absurd (hstores op (List.mem_append_left _ (mem_of_view_write hv))) (h.resolve_right nofun)
  | modify op m => exact absurd (hstores op (List.mem_append_right _ (mem_of_view_modify hv))) (h.resolve_right nofun)
  | implied op => exact s.implied_accesses_reads hv (h.resolve_right nofun)
  | special op n => exact s.special_accesses_reads hv (h.resolve_right nofun)

/-- An instruction that stores nothing has no write among its accesses. -/
theorem instrAccesses_reads (h : i.mnemonic ∉ storingMnemonics ∨ ∃ op, i.view = .acc op) :
    ∀ x ∈ s.instrAccesses i, x.written = none := by
  have hjsr : ∀ a, i ≠ .jsrAbsXInd a := by
    rintro a rfl
    exact h.resolve_right nofun (of_decide_eq_true rfl)
  intro x hx
  rw [s.instrAccesses_of_ne hjsr] at hx
  rcases List.mem_append.mp hx with hx | hx
  · exact s.fetchAccesses_reads _ x hx
  · exact s.dataAccesses_reads h x hx

end Sys2Proof.Machine.State

namespace Sys2Proof

open Sys2Proof.Machine Sys2Proof.Claims

/-- Settles O21: memory after the instruction is what its accesses leave, and reads leave it as it was. -/
theorem onlyStoresWriteMemory : Obligations.OnlyStoresWriteMemory := by
  intro i s t hexec h a
  have hmem : t.mem = s.mem := Eq.trans (exec_bus hexec) (foldl_reads _ _ _ (s.instrAccesses_reads h))
  rw [State.readByte, State.readByte, hmem, (exec_frame hexec).config]

end Sys2Proof
end

section
/-! PROOFS. Results with N and Z in the accumulator and the index registers, as numbers (R10, R21, R22), and the loads (R151 to
R153). -/

namespace Sys2Proof

@[simp] theorem loByte_zext16 (b : Byte) : loByte (zext16 b) = b := by
  apply BitVec.eq_of_toNat_eq
  rw [toNat_loByte, toNat_zext16, Nat.mod_eq_of_lt b.isLt]

end Sys2Proof

namespace Sys2Proof.Claims

open Sys2Proof Sys2Proof.Machine

/-- N is the top bit of the result as a number, and Z says that the number is 0 (R10). -/
theorem setNZ_eq_nz {w : Nat} (p : Status) (r : BitVec w) : p.setNZ r = nz p w r.toNat := by
  have hzero : r = 0 ↔ r.toNat = 0 := BitVec.toNat_inj (y := 0#w).symm.trans (by simp)
  simp only [Status.setNZ, nz, BitVec.msb_eq_decide, hzero]

variable (s : State) (i : Instr)

/-- A result in the accumulator with its N and Z, PC past the instruction (R21). -/
theorem accumulator_eq_accResult (b : Byte) (v : Word) :
    (if s.m8 then ((s.advance i.length).setA b).setNZ b else ((s.advance i.length).setC v).setNZ v) =
      accResult s i (b, nz s.p 8 b.toNat) (v, nz s.p 16 v.toNat) := by
  rw [← setNZ_eq_nz, ← setNZ_eq_nz]
  rfl

/-- N and Z of a value at the index width (R22). -/
theorem indexFlags_eq_setNZ (b : Byte) (v : Word) :
    indexFlags s (if s.x8 then zext16 b else v) = if s.x8 then s.p.setNZ b else s.p.setNZ v := by
  unfold indexFlags
  cases s.x8 <;> simp [setNZ_eq_nz]

/-- A result in X with its N and Z, PC past the instruction (R22). -/
theorem indexX_eq (b : Byte) (v : Word) :
    (if s.x8 then ((s.advance i.length).setX8 b).setNZ b else { s.advance i.length with x := v }.setNZ v) =
      let r := if s.x8 then zext16 b else v
      { s with pc := past s i, x := r, p := indexFlags s r } := by
  simp only [indexFlags_eq_setNZ]
  cases s.x8 <;> rfl

/-- A result in Y with its N and Z, PC past the instruction (R22). -/
theorem indexY_eq (b : Byte) (v : Word) :
    (if s.x8 then ((s.advance i.length).setY8 b).setNZ b else { s.advance i.length with y := v }.setNZ v) =
      let r := if s.x8 then zext16 b else v
      { s with pc := past s i, y := r, p := indexFlags s r } := by
  simp only [indexFlags_eq_setNZ]
  cases s.x8 <;> rfl

end Sys2Proof.Claims

namespace Sys2Proof

open Sys2Proof.Machine Sys2Proof.Claims

/-- Settles O29: a load is a result with N and Z, and moving PC does not matter to the operand. -/
theorem loadsLoad : Obligations.LoadsLoad := by
  intro i s src _ v
  refine ⟨fun hv => ?lda, fun hv => ?ldx, fun hv => ?ldy⟩ <;> rw [exec_of_view_read hv, Host.Outcome.next.injEq]
  case lda =>
    rw [← accumulator_eq_accResult, ← s.advance_operand8 i.length, ← s.advance_operand16 i.length]
    rfl
  case ldx =>
    rw [← indexX_eq, ← s.advance_operand8 i.length, ← s.advance_operand16 i.length]
    rfl
  case ldy =>
    rw [← indexY_eq, ← s.advance_operand8 i.length, ← s.advance_operand16 i.length]
    rfl

end Sys2Proof
end

section
/-! PROOFS. Bytes written one after another and the frame around them (R61, R80), and the stores (R154 to R157). -/

namespace Sys2Proof.Claims

open Sys2Proof Sys2Proof.Machine

/-- Nothing written. -/
theorem writes_nil (s : State) : Writes s s [] := ⟨nofun, fun _ _ => rfl⟩

/-- One more byte, at an address of its own. -/
theorem Writes.writeByte {s t : State} {ws : List (Addr × Byte)} (h : Writes s t ws) (hconfig : t.config = s.config)
    {a : Addr} (hnew : ∀ w ∈ ws, physAddr s.config.variant w.1 ≠ physAddr s.config.variant a) (b : Byte) :
    Writes s (t.writeByte a b) (ws ++ [(a, b)]) := by
  obtain ⟨hbytes, hrest⟩ := h
  refine ⟨fun w hw => ?_, fun c hc => ?_⟩
  · rw [State.readByte_writeByte, hconfig]
    rcases List.mem_append.mp hw with hw | hw
    · rw [if_neg (hnew w hw), hbytes w hw]
    · rw [List.mem_singleton.mp hw, if_pos rfl]
  · rw [State.readByte_writeByte, hconfig, if_neg (hc (a, b) (by simp))]
    exact hrest c fun w hw => hc w (List.mem_append_left _ hw)

/-- The two bytes of a word stand at different addresses, on both parts (R61, R66, R67). -/
theorem physAddr_first_ne_second (v : Variant) (pl : Place) : physAddr v pl.first ≠ physAddr v pl.second := by
  have hne : pl.first.toNat % 65536 ≠ pl.second.toNat % 65536 := by
    cases pl with
    | long a =>
      simp only [Place.first, Place.second, nextLong]
      bv_omega
    | bank0 a =>
      simp only [Place.first, Place.second, bank0, toNat_mkAddr]
      bv_omega
  cases v <;> simp only [physAddr] <;> omega

/-- A store of either width writes the bytes of its place, low byte first, and no other (R62). -/
theorem writes_store (s : State) (narrow : Bool) (m : MemMode) (v : Word) :
    Writes s (if narrow then s.store8 (s.place m) (loByte v) else s.store16 (s.place m) v) (storedBytes s m narrow v) := by
  have hlow : Writes s (s.store8 (s.place m) (loByte v)) [((s.place m).first, loByte v)] :=
    (writes_nil s).writeByte rfl nofun _
  cases narrow with
  | true => exact hlow
  | false =>
    refine hlow.writeByte rfl (fun w hw => ?_) (hiByte v)
    rw [List.mem_singleton.mp hw]
    exact physAddr_first_ne_second _ _

/-- A store of either width changes memory alone. -/
theorem store_eq (s : State) (narrow : Bool) (pl : Place) (b : Byte) (v : Word) :
    let t := if narrow then s.store8 pl b else s.store16 pl v
    t = { s with mem := t.mem } := by
  cases narrow <;> rfl

/-- The four stores, each at the width of its register (R154 to R157). -/
theorem writeOp_eq_store {op : Mnemonic} (hop : op ∈ [.STA, .STX, .STY, .STZ]) (s : State) (m : MemMode) :
    s.writeOp op m =
      if (if op = .STX ∨ op = .STY then s.x8 else s.m8) then s.store8 (s.place m) (loByte (storeSource s op))
      else s.store16 (s.place m) (storeSource s op) := by
  simp only [List.mem_cons, List.not_mem_nil, or_false] at hop
  rcases hop with rfl | rfl | rfl | rfl <;> rfl

/-- PC does not matter to the bytes a store writes. -/
theorem storedBytes_advance (s : State) (n : Nat) (m : MemMode) (narrow : Bool) (v : Word) :
    storedBytes (s.advance n) m narrow v = storedBytes s m narrow v := by
  simp only [storedBytes, State.advance_place]

end Sys2Proof.Claims

namespace Sys2Proof

open Sys2Proof.Machine Sys2Proof.Claims

/-- Settles O30: a store moves PC past itself and stores at the width of its register. -/
theorem storesStore : Obligations.StoresStore := by
  intro i s op m hv
  have hop : op ∈ [.STA, .STX, .STY, .STZ] := mem_of_view_write hv
  refine ⟨hop, _, exec_of_view_write hv s, ?frame, ?bytes⟩ <;> rw [writeOp_eq_store hop]
  case frame => exact store_eq (s.advance i.length) _ _ _ _
  case bytes =>
    have h := writes_store (s.advance i.length) (if op = .STX ∨ op = .STY then s.x8 else s.m8) m (storeSource s op)
    rw [storedBytes_advance] at h
    exact h

end Sys2Proof
end

section
/-! PROOFS. The binary sum and difference of R160 as numbers: the value, the carry, and signed overflow (R161, R162). -/

namespace Sys2Proof.Claims

open Sys2Proof Sys2Proof.Machine

variable {w : Nat}

/-- A number below twice the modulus wraps at most once. -/
theorem mod_wraps_once {n k : Nat} (h : n < 2 * k) : n < k ∧ n % k = n ∨ k ≤ n ∧ n % k = n - k := by
  rcases Nat.lt_or_ge n k with hlt | hge
  · exact .inl ⟨hlt, Nat.mod_eq_of_lt hlt⟩
  · exact .inr ⟨hge, by rw [Nat.mod_eq_sub_mod hge, Nat.mod_eq_of_lt (by omega)]⟩

/-- Overflow told by the sign bits is a signed sum that `w` bits cannot hold (R160). -/
theorem addBin_overflow (hw : 0 < w) (a b : BitVec w) (c : Bool) :
    (addBin a b c).overflow = outside w (a.toInt + b.toInt + c.toNat) := by
  have hpow : 2 ^ (w - 1) + 2 ^ (w - 1) = 2 ^ w := Nat.two_pow_pred_add_two_pow_pred hw
  have hhalf : (2 : Int) ^ (w - 1) = (2 ^ (w - 1) : Nat) := by simp
  have ha := a.isLt
  have hb := b.isLt
  have hc := c.toNat_le
  have hsum := mod_wraps_once (n := a.toNat + b.toNat + c.toNat) (k := 2 ^ w) (by omega)
  rw [Bool.eq_iff_iff]
  simp only [addBin, outside, BitVec.toInt_eq_toNat_cond, BitVec.msb_eq_decide, BitVec.toNat_ofNat, hhalf,
    Bool.and_eq_true, beq_iff_eq, bne_iff_ne, ne_eq, decide_eq_decide, decide_eq_true_eq]
  omega

/-- The complement as a signed number. -/
theorem toInt_not_eq (hw : 0 < w) (m : BitVec w) : (~~~m).toInt = -m.toInt - 1 := by
  have hpow : 2 ^ (w - 1) + 2 ^ (w - 1) = 2 ^ w := Nat.two_pow_pred_add_two_pow_pred hw
  have hm := m.isLt
  simp only [BitVec.toInt_eq_toNat_cond, BitVec.toNat_not]
  omega

/-- Adding the complement and the carry subtracts the operand and the borrow (R162). -/
theorem addBin_not_value (a m : BitVec w) (c : Bool) :
    (addBin a (~~~m) c).value = BitVec.ofInt w ((a.toNat : Int) - m.toNat - (1 - c.toNat : Nat)) := by
  have hm := m.isLt
  have hc := c.toNat_le
  have hsum : ((a.toNat + (~~~m).toNat + c.toNat : Nat) : Int)
      = (a.toNat : Int) - m.toNat - (1 - c.toNat : Nat) + (2 ^ w : Nat) := by
    rw [BitVec.toNat_not]
    omega
  apply BitVec.eq_of_toInt_eq
  rw [addBin, ← BitVec.ofInt_natCast, BitVec.toInt_ofInt, BitVec.toInt_ofInt, hsum, Int.add_bmod_right]

/-- The carry of that addition is not-borrow (R162). -/
theorem addBin_not_carry (a m : BitVec w) (c : Bool) :
    (addBin a (~~~m) c).carry = decide (m.toNat + (1 - c.toNat) ≤ a.toNat) := by
  have hm := m.isLt
  have hc := c.toNat_le
  rw [addBin, BitVec.toNat_not, decide_eq_decide]
  omega

/-- The overflow of that addition is that of the signed difference (R162). -/
theorem addBin_not_overflow (hw : 0 < w) (a m : BitVec w) (c : Bool) :
    (addBin a (~~~m) c).overflow = outside w (a.toInt - m.toInt - (1 - c.toNat : Nat)) := by
  have hc := c.toNat_le
  rw [addBin_overflow hw, toInt_not_eq hw]
  congr 1
  omega

/-- The result and P as an addition or a subtraction leaves them (R161, R162). -/
def aluOutcome (p : Status) (r : AluResult w) : BitVec w × Status := (r.value, p.arith r)

theorem aluOutcome_eq (p : Status) (r : AluResult w) :
    aluOutcome p r = (r.value, { nz p w r.value.toNat with c := r.carry, v := r.overflow }) := by
  rw [aluOutcome, Status.arith, setNZ_eq_nz]

theorem aluOutcome_addBin (hw : 0 < w) (p : Status) (a m : BitVec w) :
    aluOutcome p (addBin a m p.c) = adcBinary a m p := by
  rw [aluOutcome_eq, addBin_overflow hw, adcBinary, addBin, BitVec.toNat_ofNat]

theorem aluOutcome_addBin_not (hw : 0 < w) (p : Status) (a m : BitVec w) :
    aluOutcome p (addBin a (~~~m) p.c) = sbcBinary a m p := by
  rw [aluOutcome_eq, addBin_not_overflow hw, addBin_not_carry, addBin_not_value, sbcBinary]

end Sys2Proof.Claims
end

section
/-! PROOFS. BCD numbers digit by digit, and the decimal sum and difference of valid operands (R163 (a), (b)). -/

namespace Sys2Proof.Claims

open Sys2Proof Sys2Proof.Machine

/-- The lowest `k` digits of `v` in base `p`, read as digits in base `q`. -/
def rebase (p q k v : Nat) : Nat := ((List.range k).map (fun j => v / p ^ j % p * q ^ j)).sum

theorem bcdNumber_eq_rebase (w v : Nat) : bcdNumber w v = rebase 16 10 (w / 4) v := rfl

theorem bcdDigits_eq_rebase (w n : Nat) : bcdDigits w n = rebase 10 16 (w / 4) n := rfl

/-- The digits above the lowest are the digits of the quotient. -/
theorem div_pow_succ (p v j : Nat) : v / p ^ (j + 1) = v / p / p ^ j := by
  rw [Nat.pow_succ', Nat.div_div_eq_div_mul]

/-- The lowest digit, and the others one place up. -/
theorem rebase_succ (p q k v : Nat) : rebase p q (k + 1) v = v % p + q * rebase p q k (v / p) := by
  have hdigit (j : Nat) : v / p ^ (j + 1) % p * q ^ (j + 1) = q * (v / p / p ^ j % p * q ^ j) := by
    rw [div_pow_succ, Nat.pow_succ', Nat.mul_left_comm]
  simp [rebase, List.range_succ_eq_map, Function.comp_def, hdigit, List.sum_map_mul_left]

/-- Digits of a smaller base fit in as many places of the larger. -/
theorem rebase_lt {p q : Nat} (hp : 0 < p) (hpq : p ≤ q) (k v : Nat) : rebase p q k v < q ^ k := by
  induction k generalizing v with
  | zero => exact Nat.one_pos
  | succ k ih =>
    have hlow : v % p < q := (Nat.mod_lt v hp).trans_le hpq
    have hhigh : q * (rebase p q k (v / p) + 1) ≤ q * q ^ k := Nat.mul_le_mul_left q (ih (v / p))
    rw [rebase_succ, Nat.pow_succ']
    linarith

theorem bcdValue_eq_rebase (k v : Nat) : bcdValue k v = rebase 16 10 k v := by
  induction k generalizing v with
  | zero => rfl
  | succ k ih => rw [bcdValue, ih, rebase_succ]

theorem bcdCode_eq_rebase (k n : Nat) : bcdCode k n = rebase 10 16 k n := by
  induction k generalizing n with
  | zero => rfl
  | succ k ih => rw [bcdCode, ih, rebase_succ]

theorem bcdValid_iff (k v : Nat) : bcdValid k v = true ↔ ∀ j, j < k → v / 16 ^ j % 16 ≤ 9 := by
  induction k generalizing v with
  | zero => simp [bcdValid]
  | succ k ih =>
    rw [bcdValid, Bool.and_eq_true, decide_eq_true_eq, ih, Nat.forall_lt_succ_left]
    simp only [div_pow_succ, Nat.pow_zero, Nat.div_one]

variable {w : Nat}

theorem bcdValid_of_isBcd {v : Nat} (h : IsBcd w v) : bcdValid (w / 4) v = true := (bcdValid_iff (w / 4) v).mpr h

theorem bcdCode_lt (w n : Nat) : bcdCode (w / 4) n < 2 ^ w :=
  calc
    bcdCode (w / 4) n < 16 ^ (w / 4) := by rw [bcdCode_eq_rebase]; exact rebase_lt (by decide) (by decide) _ _
    _ = 2 ^ (4 * (w / 4)) := by rw [Nat.pow_mul]
    _ ≤ 2 ^ w := Nat.pow_le_pow_right (by decide) (Nat.mul_div_le w 4)

/-- On valid operands the decimal result and carry are those of R163 (b), and V is free. -/
theorem decimal_of_isBcd (op : DecimalOp) {a m : BitVec w} (c : Bool) (ha : IsBcd w a.toNat) (hm : IsBcd w m.toNat) :
    decimal op a m c = ⟨(decimalValid op a m c).1, (decimalValid op a m c).2, Config.decimalOverflow op w a m c⟩ := by
  rw [decimal, bcdValid_of_isBcd ha, bcdValid_of_isBcd hm]
  rfl

/-- A coded result needs no cutting to `w` bits. -/
theorem toNat_ofNat_bcdCode (n : Nat) : (BitVec.ofNat w (bcdCode (w / 4) n)).toNat = bcdCode (w / 4) n := by
  rw [BitVec.toNat_ofNat, Nat.mod_eq_of_lt (bcdCode_lt w n)]

/-- The decimal operation on valid operands as the statements give it, with V given (R163 (b)). -/
def decimalOutcome (op : DecimalOp) (a m : BitVec w) (p : Status) (v : Bool) : BitVec w × Status :=
  match op with
  | .add => adcDecimal a m p v
  | .sub => sbcDecimal a m p v

theorem aluOutcome_decimal (op : DecimalOp) (p : Status) {a m : BitVec w} (ha : IsBcd w a.toNat)
    (hm : IsBcd w m.toNat) :
    aluOutcome p (decimal op a m p.c) = decimalOutcome op a m p (Config.decimalOverflow op w a m p.c) := by
  have hborrow : (!p.c).toNat = 1 - p.c.toNat := by cases p.c <;> rfl
  rw [aluOutcome_eq, decimal_of_isBcd op p.c ha hm]
  cases op with
  | add =>
    simp only [decimalValid, toNat_ofNat_bcdCode]
    simp only [bcdValue_eq_rebase, bcdCode_eq_rebase]
    rfl
  | sub =>
    simp only [decimalValid, toNat_ofNat_bcdCode, hborrow]
    simp only [bcdValue_eq_rebase, bcdCode_eq_rebase]
    rfl

end Sys2Proof.Claims
end

section
/-! PROOFS. ADC and SBC as results at the accumulator's width, binary and decimal (R160 to R163). -/

namespace Sys2Proof.Claims

open Sys2Proof Sys2Proof.Machine

variable {i : Instr} {s : State} {src : Src}

/-- ADC writes what its arithmetic gives at the accumulator's width (R161). -/
theorem exec_adc (hv : i.view = .read .ADC src) :
    exec i s = .next (accResult s i (aluOutcome s.p (adcResult s.p s.a8 (s.operand8 src)))
      (aluOutcome s.p (adcResult s.p s.c (s.operand16 src)))) := by
  rw [exec_of_view_read hv, ← s.advance_operand8 i.length, ← s.advance_operand16 i.length]
  rfl

/-- SBC likewise (R162). -/
theorem exec_sbc (hv : i.view = .read .SBC src) :
    exec i s = .next (accResult s i (aluOutcome s.p (sbcResult s.p s.a8 (s.operand8 src)))
      (aluOutcome s.p (sbcResult s.p s.c (s.operand16 src)))) := by
  rw [exec_of_view_read hv, ← s.advance_operand8 i.length, ← s.advance_operand16 i.length]
  rfl

/-- With D = 0 the arithmetic of ADC is the binary sum (R161). -/
theorem adcResult_of_binary {w : Nat} {p : Status} (hd : p.d = false) (a m : BitVec w) :
    adcResult p a m = addBin a m p.c := by
  rw [adcResult, if_neg (Bool.eq_false_iff.mp hd)]

/-- With D = 0 the arithmetic of SBC is the binary sum with the complement (R162). -/
theorem sbcResult_of_binary {w : Nat} {p : Status} (hd : p.d = false) (a m : BitVec w) :
    sbcResult p a m = addBin a (~~~m) p.c := by
  rw [sbcResult, if_neg (Bool.eq_false_iff.mp hd)]

/-- With D = 1 the arithmetic of ADC is the decimal sum (R163). -/
theorem adcResult_of_decimal {w : Nat} {p : Status} (hd : p.d = true) (a m : BitVec w) :
    adcResult p a m = decimal .add a m p.c := by
  rw [adcResult, if_pos hd]

/-- With D = 1 the arithmetic of SBC is the decimal difference (R163). -/
theorem sbcResult_of_decimal {w : Nat} {p : Status} (hd : p.d = true) (a m : BitVec w) :
    sbcResult p a m = decimal .sub a m p.c := by
  rw [sbcResult, if_pos hd]

/-- Only the result at the accumulator's width counts. -/
theorem accResult_congr {r8 q8 : Byte × Status} {r16 q16 : Word × Status} (h8 : s.m8 = true → r8 = q8)
    (h16 : s.m8 = false → r16 = q16) : accResult s i r8 r16 = accResult s i q8 q16 := by
  unfold accResult
  split
  next h => rw [h8 h]
  next h => rw [h16 (Bool.eq_false_iff.mpr h)]

/-- The free V of a decimal operation at the accumulator's width (R163 (c)). -/
def freeOverflow (s : State) (op : DecimalOp) (src : Src) : Bool :=
  if s.m8 then Config.decimalOverflow op 8 s.a8 (s.operand8 src) s.p.c
  else Config.decimalOverflow op 16 s.c (s.operand16 src) s.p.c

/-- A decimal operation whose operands are BCD at the accumulator's width (R163 (b)). -/
theorem accResult_decimal (op : DecimalOp)
    (hbcd8 : s.m8 = true → IsBcd 8 s.a8.toNat ∧ IsBcd 8 (s.operand8 src).toNat)
    (hbcd16 : s.m8 = false → IsBcd 16 s.c.toNat ∧ IsBcd 16 (s.operand16 src).toNat) :
    accResult s i (aluOutcome s.p (decimal op s.a8 (s.operand8 src) s.p.c))
        (aluOutcome s.p (decimal op s.c (s.operand16 src) s.p.c)) =
      accResult s i (decimalOutcome op s.a8 (s.operand8 src) s.p (freeOverflow s op src))
        (decimalOutcome op s.c (s.operand16 src) s.p (freeOverflow s op src)) := by
  refine accResult_congr (fun h8 => ?narrow) (fun h16 => ?wide)
  case narrow =>
    obtain ⟨ha, hm⟩ := hbcd8 h8
    rw [aluOutcome_decimal op s.p ha hm, freeOverflow, if_pos h8]
  case wide =>
    obtain ⟨ha, hm⟩ := hbcd16 h16
    rw [aluOutcome_decimal op s.p ha hm, freeOverflow, if_neg (Bool.eq_false_iff.mp h16)]

/-- An addition or subtraction gives some result, carry and overflow, with N and Z from the result. -/
theorem accResult_aluOutcome (q8 : AluResult 8) (q16 : AluResult 16) :
    ∃ (r8 : Byte) (r16 : Word) (c v : Bool), accResult s i (aluOutcome s.p q8) (aluOutcome s.p q16) =
      accResult s i (r8, { nz s.p 8 r8.toNat with c := c, v := v }) (r16, { nz s.p 16 r16.toNat with c := c, v := v }) := by
  refine ⟨q8.value, q16.value, if s.m8 then q8.carry else q16.carry, if s.m8 then q8.overflow else q16.overflow,
    accResult_congr (fun h8 => ?_) (fun h16 => ?_)⟩
  · rw [aluOutcome_eq, if_pos h8, if_pos h8]
  · rw [aluOutcome_eq, if_neg (Bool.eq_false_iff.mp h16), if_neg (Bool.eq_false_iff.mp h16)]

end Sys2Proof.Claims

namespace Sys2Proof

open Sys2Proof.Machine Sys2Proof.Claims

/-- Settles O31: with D = 0, ADC is the binary sum. -/
theorem adcBinary : Obligations.AdcBinary := by
  intro i s src hv _ hd
  rw [exec_adc hv, adcResult_of_binary hd, adcResult_of_binary hd, aluOutcome_addBin (by decide),
    aluOutcome_addBin (by decide)]

/-- Settles O32: with D = 0, SBC is the binary sum with the complement. -/
theorem sbcBinary : Obligations.SbcBinary := by
  intro i s src hv _ hd
  rw [exec_sbc hv, sbcResult_of_binary hd, sbcResult_of_binary hd, aluOutcome_addBin_not (by decide),
    aluOutcome_addBin_not (by decide)]

/-- Settles O33: at the accumulator's width the operands are BCD, and V is the free value of the operation there. -/
theorem decimalOfValidBcd : Obligations.DecimalOfValidBcd := by
  intro i s src _ hd hbcd8 hbcd16
  refine ⟨fun hv => ⟨freeOverflow s .add src, ?adc⟩, fun hv => ⟨freeOverflow s .sub src, ?sbc⟩⟩
  case adc =>
    rw [exec_adc hv, adcResult_of_decimal hd, adcResult_of_decimal hd, accResult_decimal .add hbcd8 hbcd16]
    rfl
  case sbc =>
    rw [exec_sbc hv, sbcResult_of_decimal hd, sbcResult_of_decimal hd, accResult_decimal .sub hbcd8 hbcd16]
    rfl

/-- Settles O34: the free values are those the arithmetic gives at the accumulator's width. -/
theorem decimalAlwaysCompletes : Obligations.DecimalAlwaysCompletes := by
  rintro i s src (hv | hv) _
  · simp only [exec_adc hv, Host.Outcome.next.injEq]
    exact accResult_aluOutcome _ _
  · simp only [exec_sbc hv, Host.Outcome.next.injEq]
    exact accResult_aluOutcome _ _

end Sys2Proof
end

section
/-! PROOFS. AND, ORA, EOR, the compares and BIT, with their flags as numbers (R164 to R170). -/

namespace Sys2Proof.Claims

open Sys2Proof Sys2Proof.Machine

variable {w : Nat} (p : Status)

/-- The flags of a compare are those of the difference as a number (R167). -/
theorem compare_eq_compared (reg m : BitVec w) : p.compare reg m = compared w reg.toNat m.toNat p := by
  have hdiff : (reg - m).toNat = (reg.toNat + 2 ^ w - m.toNat) % 2 ^ w := by
    have hm := m.isLt
    rw [BitVec.toNat_sub]
    congr 1
    omega
  rw [Status.compare, setNZ_eq_nz, hdiff, compared]

/-- Z of a bit test is that of the AND as a number (R168). -/
theorem testZ_eq (a m : BitVec w) : p.testZ a m = { p with z := decide (a.toNat &&& m.toNat = 0) } := by
  have hzero : a &&& m = 0 ↔ a.toNat &&& m.toNat = 0 := by
    rw [← BitVec.toNat_inj, BitVec.toNat_and]
    simp
  simp only [Status.testZ, hzero]

/-- The flags of BIT with a memory operand, as numbers (R168). -/
theorem bitTest_eq (a m : BitVec w) :
    p.bitTest a m = { p with
      z := decide (a.toNat &&& m.toNat = 0)
      n := m.toNat.testBit (w - 1)
      v := m.toNat.testBit (w - 2) } := by
  rw [Status.bitTest, testZ_eq]
  rfl

variable (s : State) (i : Instr)

/-- Flags written at the accumulator's width, PC past the instruction. -/
theorem flags_eq_accFlags (p8 p16 : Status) :
    (if s.m8 then { s.advance i.length with p := p8 } else { s.advance i.length with p := p16 }) =
      accFlags s i p8 p16 := by
  unfold accFlags
  cases s.m8 <;> rfl

/-- Flags written at the index width, PC past the instruction. -/
theorem flags_eq_indexWidth (p8 p16 : Status) :
    (if s.x8 then { s.advance i.length with p := p8 } else { s.advance i.length with p := p16 }) =
      { s with pc := past s i, p := if s.x8 then p8 else p16 } := by
  cases s.x8 <;> rfl

end Sys2Proof.Claims

namespace Sys2Proof

open Sys2Proof.Machine Sys2Proof.Claims

/-- Settles O35: each of the three is its bitwise operation, with N and Z from the result. -/
theorem logicalOperations : Obligations.LogicalOperations := by
  intro i s op src hop hv _ r8 r16
  rw [exec_of_view_read hv, ← accumulator_eq_accResult]
  simp only [r8, r16, ← s.advance_operand8 i.length, ← s.advance_operand16 i.length]
  simp only [List.mem_cons, List.not_mem_nil, or_false] at hop
  rcases hop with rfl | rfl | rfl <;> rfl

/-- Settles O36: the flags of a compare come from the difference, at the width of the register. -/
theorem compares : Obligations.Compares := by
  intro i s src _
  refine ⟨fun hv => ?cmp, fun hv => ?cpx, fun hv => ?cpy⟩ <;>
    rw [exec_of_view_read hv, Host.Outcome.next.injEq] <;>
    simp only [← compare_eq_compared]
  case cmp =>
    rw [← flags_eq_accFlags, ← s.advance_operand8 i.length, ← s.advance_operand16 i.length]
    rfl
  case cpx =>
    rw [← flags_eq_indexWidth, ← s.advance_operand8 i.length, ← s.advance_operand16 i.length]
    rfl
  case cpy =>
    rw [← flags_eq_indexWidth, ← s.advance_operand8 i.length, ← s.advance_operand16 i.length]
    rfl

/-- Settles O37: an immediate tests Z alone, a memory operand gives N and V as well. -/
theorem bitTests : Obligations.BitTests := by
  refine ⟨fun i s v hv _ => ?imm, fun i s m hv => ?mem⟩ <;> rw [exec_of_view_read hv, Host.Outcome.next.injEq]
  case imm =>
    rw [← testZ_eq, ← testZ_eq, ← flags_eq_accFlags, ← s.advance_operand8 i.length, ← s.advance_operand16 i.length]
    rfl
  case mem =>
    refine Eq.trans ?_ (congrArg₂ (accFlags s i) (bitTest_eq s.p s.a8 (s.operand8 (.mem m)))
      (bitTest_eq s.p s.c (s.operand16 (.mem m))))
    rw [← flags_eq_accFlags, ← s.advance_operand8 i.length, ← s.advance_operand16 i.length]
    rfl

end Sys2Proof
end

section
/-! PROOFS. The read-modify-write functions as numbers (R181 to R188), and their frame in the accumulator and in memory
(R72, R73, R180). -/

namespace Sys2Proof.Claims

open Sys2Proof Sys2Proof.Machine

/-! ### Shifts, rotates and steps as numbers -/

section

variable {w : Nat} (v : BitVec w) (c : Bool)

theorem toNat_shiftLeft_one : (v <<< 1).toNat = 2 * v.toNat % 2 ^ w := by
  rw [BitVec.toNat_shiftLeft, Nat.shiftLeft_eq, Nat.pow_one, Nat.mul_comm]

theorem toNat_shiftRight_one : (v >>> 1).toNat = v.toNat / 2 := by
  rw [BitVec.toNat_ushiftRight, Nat.shiftRight_eq_div_pow, Nat.pow_one]

/-- A carry entering the bit that a left shift vacates is added (R183). -/
theorem toNat_shiftLeft_or_carry :
    (v <<< 1 ||| BitVec.ofNat w c.toNat).toNat = (2 * v.toNat + c.toNat) % 2 ^ w := by
  have hadd : 2 * v.toNat + c.toNat = v.toNat <<< 1 ||| c.toNat := by
    rw [← Nat.shiftLeft_add_eq_or_of_lt (Nat.lt_succ_of_le c.toNat_le), Nat.shiftLeft_eq, Nat.pow_one, Nat.mul_comm]
  rw [hadd, Nat.or_mod_two_pow, BitVec.toNat_or, BitVec.toNat_shiftLeft, BitVec.toNat_ofNat]

/-- A carry entering the top bit that a right shift vacates is added at its weight (R184). -/
theorem toNat_shiftRight_or_carry (hw : 0 < w) :
    (v >>> 1 ||| BitVec.ofNat w c.toNat <<< (w - 1)).toNat = v.toNat / 2 + c.toNat * 2 ^ (w - 1) := by
  have hpow : 2 ^ (w - 1) + 2 ^ (w - 1) = 2 ^ w := Nat.two_pow_pred_add_two_pow_pred hw
  have hv := v.isLt
  have hcarry : (BitVec.ofNat w c.toNat <<< (w - 1)).toNat = c.toNat <<< (w - 1) := by
    have hfits : c.toNat * 2 ^ (w - 1) < 2 ^ w := by
      have hle := Nat.mul_le_mul_right (2 ^ (w - 1)) c.toNat_le
      have hpos := Nat.two_pow_pos (w - 1)
      omega
    have hbit : c.toNat < 2 ^ w := c.toNat_le.trans_lt (Nat.one_lt_two_pow hw.ne')
    rw [BitVec.toNat_shiftLeft, BitVec.toNat_ofNat, Nat.mod_eq_of_lt hbit, Nat.shiftLeft_eq, Nat.mod_eq_of_lt hfits]
  rw [BitVec.toNat_or, hcarry, toNat_shiftRight_one, Nat.lor_comm, ← Nat.shiftLeft_add_eq_or_of_lt (by omega),
    Nat.shiftLeft_eq, Nat.add_comm]

theorem toNat_add_one : (v + 1).toNat = (v.toNat + 1) % 2 ^ w := by
  rw [BitVec.toNat_add, BitVec.ofNat_eq_ofNat, BitVec.toNat_ofNat, Nat.add_mod_mod]

theorem toNat_sub_one (hw : 0 < w) : (v - 1).toNat = (v.toNat + 2 ^ w - 1) % 2 ^ w := by
  have hone : 1 % 2 ^ w = 1 := Nat.mod_eq_of_lt (Nat.one_lt_two_pow hw.ne')
  have hpos := Nat.two_pow_pos w
  rw [BitVec.toNat_sub, BitVec.ofNat_eq_ofNat, BitVec.toNat_ofNat, hone]
  congr 1
  omega

/-- Bit 0 as the parity of the number. -/
theorem getLsbD_zero_eq_decide : v.getLsbD 0 = decide (v.toNat % 2 = 1) := Nat.testBit_zero v.toNat

/-- LSR clears N because its result has no top bit (R182). -/
theorem lsrFn_eq (a : BitVec w) (p : Status) :
    lsrFn w a p v = (v >>> 1, { p.setNZ (v >>> 1) with c := v.getLsbD 0 }) := by
  have hmsb : (v >>> 1).msb = false := by
    rw [BitVec.msb_ushiftRight]
    rfl
  simp only [lsrFn, Status.setNZ, hmsb]

end

/-- Each read-modify-write function computes the numbers of its rule (R181 to R188). -/
theorem modified_eq_rmwOf {op : Mnemonic} (hop : op ∈ modifyMnemonics) {w : Nat} (hw : 0 < w) (a v : BitVec w)
    (p : Status) :
    modified op w a.toNat v.toNat p = ((rmwOf op w a p v).1.toNat, (rmwOf op w a p v).2) := by
  simp only [modifyMnemonics, List.mem_cons, List.not_mem_nil, or_false] at hop
  rcases hop with rfl | rfl | rfl | rfl | rfl | rfl | rfl | rfl
  · simp only [modified, rmwOf, aslFn, setNZ_eq_nz, toNat_shiftLeft_one, BitVec.msb_eq_decide]
  · simp only [modified, rmwOf, lsrFn_eq, setNZ_eq_nz, toNat_shiftRight_one, getLsbD_zero_eq_decide]
  · simp only [modified, rmwOf, rolFn, setNZ_eq_nz, toNat_shiftLeft_or_carry, BitVec.msb_eq_decide]
  · simp only [modified, rmwOf, rorFn, setNZ_eq_nz, toNat_shiftRight_or_carry _ _ hw, getLsbD_zero_eq_decide]
  · simp only [modified, rmwOf, incFn, setNZ_eq_nz, toNat_add_one]
    rfl
  · simp only [modified, rmwOf, decFn, setNZ_eq_nz, toNat_sub_one _ hw]
    rfl
  · simp only [modified, rmwOf, trbFn, testZ_eq, BitVec.toNat_and, BitVec.toNat_not]
  · simp only [modified, rmwOf, tsbFn, testZ_eq, BitVec.toNat_or]

/-! ### The accumulator -/

/-- A read-modify-write of the accumulator is a result at its width, PC past the instruction (R115, R180). -/
theorem modifyAcc_eq_accResult (s : State) (i : Instr) (f : RmwFn) :
    (s.advance i.length).modifyAcc f = accResult s i (f 8 s.a8 s.p s.a8) (f 16 s.c s.p s.c) := rfl

/-! ### The write-back -/

/-- The bytes written do not depend on the order of the writes. -/
theorem Writes.perm {s t : State} {ws ws' : List (Addr × Byte)} (h : Writes s t ws) (hperm : ws.Perm ws') :
    Writes s t ws' := by
  obtain ⟨hbytes, hrest⟩ := h
  exact ⟨fun w hw => hbytes w (hperm.mem_iff.mpr hw), fun a ha => hrest a fun w hw => ha w (hperm.mem_iff.mp hw)⟩

/-- A byte written over the one byte written before. -/
theorem Writes.overwrite {s t : State} {a : Addr} {old : Byte} (h : Writes s t [(a, old)])
    (hconfig : t.config = s.config) (new : Byte) : Writes s (t.writeByte a new) [(a, new)] := by
  obtain ⟨-, hrest⟩ := h
  refine ⟨fun w hw => ?_, fun b hb => ?_⟩
  · rw [State.readByte_writeByte, List.mem_singleton.mp hw, if_pos rfl]
  · rw [State.readByte_writeByte, hconfig, if_neg (hb (a, new) (List.mem_singleton_self _))]
    exact hrest b fun w hw => List.mem_singleton.mp hw ▸ hb (a, new) (List.mem_singleton_self _)

/-- The old value that Emulation mode writes first does not last (R73). -/
theorem writes_writeBack8 (s : State) (pl : Place) (old new : Byte) :
    Writes s (s.writeBack8 pl old new) [(pl.first, new)] := by
  have honce (b : Byte) : Writes s (s.store8 pl b) [(pl.first, b)] := (writes_nil s).writeByte rfl nofun b
  unfold State.writeBack8
  split
  · exact (honce old).overwrite rfl new
  · exact honce new

/-- The word stands low byte first although its high byte is written first (R62, R73). -/
theorem writes_writeBack16 (s : State) (pl : Place) (new : Word) :
    Writes s (s.writeBack16 pl new) [(pl.first, loByte new), (pl.second, hiByte new)] := by
  have hhigh : Writes s (s.writeByte pl.second (hiByte new)) [(pl.second, hiByte new)] :=
    (writes_nil s).writeByte rfl nofun _
  refine (hhigh.writeByte rfl (fun w hw => ?_) (loByte new)).perm (List.Perm.swap _ _ [])
  rw [List.mem_singleton.mp hw]
  exact (physAddr_first_ne_second _ _).symm

/-! ### Memory -/

/-- What a read-modify-write of memory makes of its operand, as a word, and of P. -/
def modifiedOperand (s : State) (f : RmwFn) (m : MemMode) : Word × Status :=
  if s.m8 then
    let r := f 8 s.a8 s.p (s.load8 (s.place m))
    (zext16 r.1, r.2)
  else f 16 s.c s.p (s.load16 (s.place m))

/-- PC does not matter to it. -/
theorem modifiedOperand_advance (s : State) (n : Nat) (f : RmwFn) (m : MemMode) :
    modifiedOperand (s.advance n) f m = modifiedOperand s f m := by
  simp only [modifiedOperand, State.advance_place]
  rfl

/-- A read-modify-write of memory leaves P as its function says (R180). -/
theorem modifyMem_p_eq (s : State) (f : RmwFn) (m : MemMode) : (s.modifyMem f m).p = (modifiedOperand s f m).2 := by
  unfold State.modifyMem modifiedOperand
  cases s.m8 <;> rfl

/-- A read-modify-write of memory replaces its operand and no other byte (R180). -/
theorem writes_modifyMem (s : State) (f : RmwFn) (m : MemMode) :
    Writes s (s.modifyMem f m) (storedBytes s m s.m8 (modifiedOperand s f m).1) := by
  unfold State.modifyMem modifiedOperand storedBytes
  cases s.m8 with
  | true =>
    simp only [if_true, loByte_zext16]
    exact writes_writeBack8 s _ _ _
  | false => exact writes_writeBack16 s _ _

/-- The operand and P as the numbers of the rules (R181 to R188). -/
theorem modifiedOperand_rmwOf {op : Mnemonic} (hop : op ∈ modifyMnemonics) (s : State) (m : MemMode) :
    let r := if s.m8 then modified op 8 s.a8.toNat (s.load8 (s.place m)).toNat s.p
      else modified op 16 s.c.toNat (s.load16 (s.place m)).toNat s.p
    modifiedOperand s (rmwOf op) m = (BitVec.ofNat 16 r.1, r.2) := by
  rw [modified_eq_rmwOf hop (by decide), modified_eq_rmwOf hop (by decide), modifiedOperand]
  cases s.m8 with
  | true => simp only [if_true, BitVec.ofNat_toNat, zext16]
  | false => simp only [Bool.false_eq_true, if_false, BitVec.ofNat_toNat, BitVec.setWidth_eq]

end Sys2Proof.Claims

namespace Sys2Proof

open Sys2Proof.Machine Sys2Proof.Claims

/-- Settles O38: the accumulator at its width holds the number its rule gives. -/
theorem accumulatorModifies : Obligations.AccumulatorModifies := by
  intro i s op hv
  obtain ⟨hop, hc⟩ := mem_of_view_acc hv
  have hmnemonic : ∀ op ∈ modifyMnemonics, op ∈ accumulatorMnemonics →
      op ∈ [.ASL, .ROL, .LSR, .ROR, .INC, .DEC] := by decide
  refine ⟨hmnemonic op hop hc, ?_⟩
  rw [exec_of_view_acc hv, modifyAcc_eq_accResult, modified_eq_rmwOf hop (by decide), modified_eq_rmwOf hop (by decide)]
  simp only [BitVec.ofNat_toNat, BitVec.setWidth_eq]

/-- Settles O39: the operand is replaced by the number its rule gives, in whatever order its bytes are written. -/
theorem memoryModifies : Obligations.MemoryModifies := by
  intro i s op m hv
  have hop : op ∈ modifyMnemonics := mem_of_view_modify hv
  have hmnemonic : ∀ op ∈ modifyMnemonics, op ∈ [.ASL, .ROL, .LSR, .ROR, .INC, .DEC, .TRB, .TSB] := by decide
  refine ⟨hmnemonic op hop, _, exec_of_view_modify hv s, ?_⟩
  intro r
  have hr : modifiedOperand (s.advance i.length) (rmwOf op) m = (BitVec.ofNat 16 r.1, r.2) :=
    (modifiedOperand_advance s _ _ m).trans (modifiedOperand_rmwOf hop s m)
  refine ⟨?frame, ?bytes⟩
  case frame =>
    rw [State.modifyMem_eq, modifyMem_p_eq, hr]
    rfl
  case bytes =>
    have hwrites := writes_modifyMem (s.advance i.length) (rmwOf op) m
    rw [hr, storedBytes_advance] at hwrites
    exact hwrites

end Sys2Proof
end

section
/-! PROOFS. Branch targets and index steps as numbers (R130, R190, R207 to R210), and what the branches, the flag instructions,
the index steps and NOP do. -/

namespace Sys2Proof.Claims

open Sys2Proof Sys2Proof.Machine

/-- A signed number added to a value, modulo 2^w. -/
theorem ofInt_toNat_add {w : Nat} (v : BitVec w) (z : Int) : BitVec.ofInt w (v.toNat + z) = v + BitVec.ofInt w z := by
  rw [BitVec.ofInt_add, BitVec.ofInt_natCast, BitVec.ofNat_toNat, BitVec.setWidth_eq]

/-- A branch moves PC and nothing else (R130, R190). -/
theorem branchIf_eq (s : State) (cond : Bool) (r : Byte) :
    s.branchIf cond r = { s with pc := if cond then s.pc + sext16 r else s.pc } := by
  cases cond <;> rfl

/-- PC past the two bytes of a branch, within the bank (R29). -/
theorem pc_add_two_eq_ofNat (s : State) : s.pc + 2 = BitVec.ofNat 16 (s.pc.toNat + 2) := word_eq_ofNat (by simp)

/-- The target counts from the next instruction, the displacement as a signed number (R92, R130). -/
theorem branchTarget_eq_ofInt (s : State) (r : Byte) :
    s.pc + 2 + sext16 r = BitVec.ofInt 16 (s.pc.toNat + 2 + r.toInt) := by
  calc s.pc + 2 + sext16 r
      = s.pc + (BitVec.ofInt 16 2 + BitVec.ofInt 16 r.toInt) := BitVec.add_assoc ..
    _ = s.pc + BitVec.ofInt 16 (2 + r.toInt) := by rw [BitVec.ofInt_add]
    _ = BitVec.ofInt 16 (s.pc.toNat + 2 + r.toInt) := by rw [← ofInt_toNat_add, Int.add_assoc]

/-- An index register moves within its width: XL or YL alone at 8 bits, the high byte staying 00 (R22, R207 to R210). -/
theorem movedIndex_eq (s : State) (v : Word) (delta : Int) :
    movedIndex s v delta = if s.x8 then zext16 (loByte v + BitVec.ofInt 8 delta) else v + BitVec.ofInt 16 delta := by
  rw [movedIndex, ofInt_toNat_add, ofInt_toNat_add]

variable (s : State) (i : Instr) (delta : Int)

/-- X moved by one instruction, PC past it (R207, R209). -/
theorem stepX_eq_movedIndex :
    (s.advance i.length).stepX delta =
      { s with pc := past s i, x := movedIndex s s.x delta, p := indexFlags s (movedIndex s s.x delta) } := by
  rw [movedIndex_eq]
  exact indexX_eq s i _ _

/-- Y moved by one instruction, PC past it (R208, R210). -/
theorem stepY_eq_movedIndex :
    (s.advance i.length).stepY delta =
      { s with pc := past s i, y := movedIndex s s.y delta, p := indexFlags s (movedIndex s s.y delta) } := by
  rw [movedIndex_eq]
  exact indexY_eq s i _ _

end Sys2Proof.Claims

namespace Sys2Proof

open Sys2Proof.Machine Sys2Proof.Claims

/-- Settles O40: the target of a taken branch and the next instruction, as numbers modulo 2^16. -/
theorem shortBranches : Obligations.ShortBranches := by
  refine ⟨fun i s op r hv => ?exec, fun r => ?encodings⟩
  case exec =>
    have hlength : i.length = 2 := by rw [Instr.length, hv]
    rw [exec_of_view_branch hv, branchIf_eq, hlength, ← branchTarget_eq_ofInt, ← pc_add_two_eq_ofNat]
    rfl
  case encodings =>
    exact ⟨⟨rfl, rfl⟩, ⟨rfl, rfl⟩, ⟨rfl, rfl⟩, ⟨rfl, rfl⟩, ⟨rfl, rfl⟩, ⟨rfl, rfl⟩, ⟨rfl, rfl⟩, ⟨rfl, rfl⟩, ⟨rfl, rfl⟩⟩

/-- Settles O42: each of the four moves its register at the index width, by one up or down. -/
theorem indexSteps : Obligations.IndexSteps := by
  refine ⟨fun s => ⟨?inx, ?dex, ?iny, ?dey⟩, rfl, rfl, rfl, rfl⟩
  case inx => exact congrArg Host.Outcome.next (stepX_eq_movedIndex s .inx 1)
  case dex => exact congrArg Host.Outcome.next (stepX_eq_movedIndex s .dex (-1))
  case iny => exact congrArg Host.Outcome.next (stepY_eq_movedIndex s .iny 1)
  case dey => exact congrArg Host.Outcome.next (stepY_eq_movedIndex s .dey (-1))

/-- Settles O41: each of the seven is PC past its one byte and its one flag, by the model's own equations. -/
theorem flagInstructions : Obligations.FlagInstructions :=
  ⟨fun _ => ⟨rfl, rfl, rfl, rfl, rfl, rfl, rfl⟩, rfl, rfl, rfl, rfl, rfl, rfl, rfl⟩

/-- Settles O43: NOP is PC past its one byte. -/
theorem nopDoesNothing : Obligations.NopDoesNothing := ⟨fun _ => rfl, rfl⟩

end Sys2Proof
end

section
/-! PROOFS. Pushes and pulls as lists of bytes at their slots (R220 to R222), and the instructions that push and pull registers
and words (R224 to R239). -/

namespace Sys2Proof.Claims

open Sys2Proof Sys2Proof.Machine

/-! ### Bytes written at different addresses -/

/-- Different words are different addresses of bank 00, on both parts (R61). -/
theorem physAddr_bankZero_ne (v : Variant) {a b : Word} (h : a ≠ b) :
    physAddr v (mkAddr 0 a) ≠ physAddr v (mkAddr 0 b) := by
  have hne : a.toNat ≠ b.toNat := fun heq => h (BitVec.eq_of_toNat_eq heq)
  have ha := a.isLt
  have hb := b.isLt
  cases v <;> simp only [physAddr, toNat_mkAddr] <;> omega

/-- Memory after these bytes were written, in order. -/
def memAfter (s : State) (ws : List (Addr × Byte)) : Memory :=
  afterAccesses s (ws.map fun w => .write w.1 w.2)

theorem memAfter_append_singleton (s : State) (ws : List (Addr × Byte)) (w : Addr × Byte) :
    memAfter s (ws ++ [w]) = (memAfter s ws).write (physAddr s.config.variant w.1) w.2 := by
  rw [memAfter, afterAccesses, List.map_append, List.foldl_append]
  rfl

/-- At addresses that all differ, every byte written is there at the end. -/
theorem writes_memAfter (s : State) {ws : List (Addr × Byte)}
    (hdistinct : ws.Pairwise fun v w => physAddr s.config.variant v.1 ≠ physAddr s.config.variant w.1) :
    Writes s { s with mem := memAfter s ws } ws := by
  induction ws using List.reverseRecOn with
  | nil => exact writes_nil s
  | append_singleton ws w ih =>
    obtain ⟨hws, -, hlast⟩ := List.pairwise_append.mp hdistinct
    rw [memAfter_append_singleton]
    exact (ih hws).writeByte rfl (fun v hv => hlast v hv w (List.mem_singleton_self w)) w.2

/-- Registers may be written behind it. -/
theorem Writes.then_registers {s t u : State} {ws : List (Addr × Byte)} (h : Writes s t ws) (hmem : u.mem = t.mem)
    (hconfig : u.config = t.config) : Writes s u ws := by
  have hread (a : Addr) : u.readByte a = t.readByte a := by rw [State.readByte, hmem, hconfig, State.readByte]
  simpa only [Writes, hread] using h

/-! ### Pushes as a list of bytes -/

/-- These bytes in bank 00, the first at slot 0. -/
def atSlots (slot : Nat → Word) (bytes : List Byte) : List (Addr × Byte) :=
  bytes.zipIdx.map fun q => (mkAddr 0 (slot q.2), q.1)

theorem atSlots_cons (slot : Nat → Word) (b : Byte) (rest : List Byte) :
    atSlots slot (b :: rest) = (mkAddr 0 (slot 0), b) :: atSlots (fun n => slot (n + 1)) rest := by
  rw [atSlots, List.zipIdx_cons', List.map_cons, List.map_map]
  rfl

/-- Different slots are different addresses. -/
theorem atSlots_distinct (v : Variant) {slot : Nat → Word} {bytes : List Byte}
    (hslot : ∀ i j, i < j → j < bytes.length → slot i ≠ slot j) :
    (atSlots slot bytes).Pairwise fun a b => physAddr v a.1 ≠ physAddr v b.1 := by
  have hrising : bytes.zipIdx.Pairwise fun p q => p.2 < q.2 := by
    rw [← List.pairwise_map (f := Prod.snd) (R := (· < ·)), List.zipIdx_map_snd]
    exact List.pairwise_lt_range'
  refine List.pairwise_map.mpr (hrising.imp_of_mem fun _ hq hlt => ?_)
  exact physAddr_bankZero_ne v (hslot _ _ hlt (by simpa using List.snd_lt_of_mem_zipIdx hq))

/-- A push that writes at S and moves S to its next slot, done for one byte after another. -/
theorem foldl_push_eq {push : State → Byte → State} {slot : State → Nat → Word} (hsp : ∀ s, slot s 0 = s.sp)
    (hpush : ∀ s b, push s b = { s.writeByte (bank0 s.sp) b with sp := slot s 1 })
    (hnext : ∀ s b n, slot (push s b) n = slot s (n + 1)) (s : State) (bytes : List Byte) :
    bytes.foldl push s =
      { s with sp := slot s bytes.length, mem := memAfter s (atSlots (slot s) bytes) } := by
  induction bytes generalizing s with
  | nil =>
    rw [List.length_nil, hsp]
    rfl
  | cons b rest ih =>
    rw [List.foldl_cons, ih, funext (hnext s b), atSlots_cons, hsp, hpush]
    rfl

/-! ### Ordinary pushes (R220) -/

/-- The slots differ for as many pushes as a page holds. -/
theorem down_ne (s : State) {i j : Nat} (hij : i < j) (hj : j < 256) : down s i ≠ down s j := by
  unfold down
  cases s.e with
  | true =>
    intro h
    have hlow := congrArg loByte h
    simp only [if_true, loByte_mkWord] at hlow
    bv_omega
  | false =>
    simp only [Bool.false_eq_true, if_false]
    bv_omega

/-- Bytes pushed after PC moved past the instruction, PC left anywhere. -/
theorem pushed_foldl_push8 (s : State) (n : Nat) (pc : Word) {bytes : List Byte} (hlength : bytes.length ≤ 256) :
    Pushed s { bytes.foldl State.push8 (s.advance n) with pc := pc } pc bytes := by
  rw [foldl_push_eq (push := State.push8) down_zero (fun _ _ => rfl) down_push8]
  have hdistinct := atSlots_distinct s.config.variant fun _ _ hij hj => down_ne s hij (hj.trans_le hlength)
  exact ⟨rfl, (writes_memAfter s hdistinct).then_registers rfl rfl⟩

/-- One byte pushed by an instruction of one byte. -/
theorem pushed_push8 (s : State) (b : Byte) : Pushed s ((s.advance 1).push8 b) (s.pc + 1) [b] :=
  pushed_foldl_push8 s 1 (s.pc + 1) (bytes := [b]) (by simp)

/-- A register pushed at its width, a word high byte first. -/
theorem pushed_push (s : State) (narrow : Bool) (v : Word) :
    Pushed s (if narrow then (s.advance 1).push8 (loByte v) else (s.advance 1).push16 v) (s.pc + 1)
      (if narrow then [loByte v] else [hiByte v, loByte v]) := by
  cases narrow with
  | true => exact pushed_push8 s (loByte v)
  | false => exact pushed_foldl_push8 s 1 (s.pc + 1) (bytes := [hiByte v, loByte v]) (by simp)

/-! ### `New` pushes (R222) -/

/-- The slot of the `n`-th `New` push, counted from 0. -/
def downNew (s : State) (n : Nat) : Word := s.sp - BitVec.ofNat 16 n

theorem downNew_zero (s : State) : downNew s 0 = s.sp := BitVec.sub_zero s.sp

theorem downNew_pushNew8 (s : State) (b : Byte) (n : Nat) : downNew (s.pushNew8 b) n = downNew s (n + 1) := by
  simp [downNew, State.pushNew8, BitVec.ofNat_add, sub_add_eq_sub_sub_swap]

theorem downNew_ne (s : State) {i j : Nat} (hij : i < j) (hj : j < 65536) : downNew s i ≠ downNew s j := by
  unfold downNew
  bv_omega

/-- Bytes pushed after PC moved past the instruction, PC and PBR left anywhere. -/
theorem pushedNew_foldl_pushNew8 (s : State) (n : Nat) (pc : Word) (pbr : Byte) {bytes : List Byte}
    (hlength : bytes.length ≤ 65536) :
    PushedNew s { (bytes.foldl State.pushNew8 (s.advance n)).endNew with pc := pc, pbr := pbr } pc pbr bytes := by
  rw [foldl_push_eq (push := State.pushNew8) downNew_zero (fun _ _ => rfl) downNew_pushNew8, State.endNew_eq]
  have hdistinct := atSlots_distinct s.config.variant fun _ _ hij hj => downNew_ne s hij (hj.trans_le hlength)
  exact ⟨rfl, (writes_memAfter s hdistinct).then_registers rfl rfl⟩

/-- A word pushed by an instruction of `n` bytes, high byte first. -/
theorem pushedNew_pushNew16 (s : State) (n : Nat) (v : Word) :
    PushedNew s ((s.advance n).pushNew16 v).endNew (s.pc + BitVec.ofNat 16 n) s.pbr [hiByte v, loByte v] := by
  have h := pushedNew_foldl_pushNew8 s n (s.pc + BitVec.ofNat 16 n) s.pbr (bytes := [hiByte v, loByte v]) (by simp)
  rw [State.endNew_eq] at h ⊢
  exact h

/-! ### Pulls (R221, R222) -/

/-- The word two ordinary pulls read, its low byte first. -/
def pulledWord (s : State) : Word := mkWord (pulled s 2) (pulled s 1)

/-- The word two `New` pulls read, its low byte first. -/
def pulledNewWord (s : State) : Word := mkWord (pulledNew s 2) (pulledNew s 1)

theorem pull8_eq_pulled (s : State) : s.pull8 = (pulled s 1, { s with sp := up s 1 }) := rfl

theorem pull16_eq_pulled (s : State) : s.pull16 = (pulledWord s, { s with sp := up s 2 }) := by
  have hsecond : s.pull8.2.spAfterPull = up s 2 := up_pull8 s 1
  unfold pulledWord pulled
  rw [← hsecond]
  rfl

theorem pullNew16_eq_pulledNew (s : State) : s.pullNew16 = (pulledNewWord s, { s with sp := s.sp + 2 }) := by
  have hsecond : s.sp + 1 + 1 = s.sp + 2 := BitVec.add_assoc s.sp 1 1
  simp only [State.pullNew16, State.pullNew8, hsecond]
  rfl

/-- What loading P from a byte does, in numbers (R22, R237). -/
theorem loadP_eq_pulledStatus (s : State) (b : Byte) :
    s.loadP b =
      { s with
        p := pulledStatus s b
        x := cutIndex s (pulledStatus s b) s.x
        y := cutIndex s (pulledStatus s b) s.y } := by
  have hp : s.p.ofPulled s.e b = pulledStatus s b := rfl
  rw [State.loadP_eq, State.truncateIndex_eq, hp]
  simp [cutIndex]

/-! ### The pulling instructions, PC apart (R234 to R239) -/

/-- What a pull of either width leaves in an index register, 8 bits extended by zeros (R22). -/
def pulledIndex (s : State) : Word := if s.x8 then zext16 (pulled s 1) else pulledWord s

theorem pla_eq_pulled (s : State) :
    s.pla =
      if s.m8 then
        { s with sp := up s 1, c := mkWord (hiByte s.c) (pulled s 1), p := nz s.p 8 (pulled s 1).toNat }
      else { s with sp := up s 2, c := pulledWord s, p := nz s.p 16 (pulledWord s).toNat } := by
  rw [State.pla, pull8_eq_pulled, pull16_eq_pulled, ← setNZ_eq_nz, ← setNZ_eq_nz]
  rfl

theorem plx_eq_pulled (s : State) :
    s.plx =
      { s with sp := up s (if s.x8 then 1 else 2), x := pulledIndex s, p := indexFlags s (pulledIndex s) } := by
  rw [State.plx, pull8_eq_pulled, pull16_eq_pulled, pulledIndex, indexFlags_eq_setNZ]
  cases s.x8 <;> rfl

theorem ply_eq_pulled (s : State) :
    s.ply =
      { s with sp := up s (if s.x8 then 1 else 2), y := pulledIndex s, p := indexFlags s (pulledIndex s) } := by
  rw [State.ply, pull8_eq_pulled, pull16_eq_pulled, pulledIndex, indexFlags_eq_setNZ]
  cases s.x8 <;> rfl

theorem plb_eq_pulled (s : State) :
    s.plb = { s with sp := up s 1, dbr := pulled s 1, p := nz s.p 8 (pulled s 1).toNat } := by
  rw [State.plb, pull8_eq_pulled, ← setNZ_eq_nz]
  rfl

theorem pld_eq_pulledNew (s : State) :
    s.pld =
      { s with sp := newEnd s (s.sp + 2), d := pulledNewWord s, p := nz s.p 16 (pulledNewWord s).toNat } := by
  rw [State.pld, pullNew16_eq_pulledNew, State.endNew_eq, ← setNZ_eq_nz]
  rfl

theorem plp_eq_pulledStatus (s : State) :
    let p := pulledStatus s (pulled s 1)
    s.plp = { s with sp := up s 1, p := p, x := cutIndex s p s.x, y := cutIndex s p s.y } := by
  rw [State.plp, pull8_eq_pulled, loadP_eq_pulledStatus]
  rfl

end Sys2Proof.Claims

namespace Sys2Proof

open Sys2Proof.Machine Sys2Proof.Claims

/-- Settles O45: each pushes its one byte, or at the width of its register. -/
theorem registerPushes : Obligations.RegisterPushes := by
  intro s
  refine ⟨⟨_, rfl, ?pha⟩, ⟨_, rfl, ?phx⟩, ⟨_, rfl, ?phy⟩, ⟨_, rfl, ?phb⟩, ⟨_, rfl, ?phk⟩, ⟨_, rfl, ?php⟩⟩
  case pha => exact pushed_push s s.m8 s.c
  case phx => exact pushed_push s s.x8 s.x
  case phy => exact pushed_push s s.x8 s.y
  case phb => exact pushed_push8 s s.dbr
  case phk => exact pushed_push8 s s.pbr
  case php =>
    rw [← toByte_eq_statusByte]
    exact pushed_push8 s _

/-- Settles O46: each pushes its word with a `New` push. -/
theorem wordPushes : Obligations.WordPushes := by
  refine fun s => ⟨fun v => ⟨_, rfl, ?pea⟩, fun o => ⟨_, rfl, ?pei⟩, fun r => ⟨_, rfl, ?per⟩, ⟨_, rfl, ?phd⟩⟩
  case pea => exact pushedNew_pushNew16 s 3 v
  case pei =>
    have h := pushedNew_pushNew16 s 2 (s.readWord0 (s.dirAddr o))
    rw [State.readWord0, hiByte_mkWord, loByte_mkWord] at h
    exact h
  case per => exact pushedNew_pushNew16 s 3 (s.pc + 3 + r)
  case phd => exact pushedNew_pushNew16 s 1 s.d

/-- Settles O47: a pull at the width of the register, then its N and Z. -/
theorem registerPulls : Obligations.RegisterPulls := by
  refine fun s => ⟨congrArg Host.Outcome.next ?pla, congrArg Host.Outcome.next ?plx, congrArg Host.Outcome.next ?ply,
    congrArg Host.Outcome.next ?plb⟩
  case pla => exact pla_eq_pulled (s.advance 1)
  case plx => exact plx_eq_pulled (s.advance 1)
  case ply => exact ply_eq_pulled (s.advance 1)
  case plb => exact plb_eq_pulled (s.advance 1)

/-- Settles O48: D from two `New` pulls with its N and Z, and P from one ordinary pull. -/
theorem pldAndPlp : Obligations.PldAndPlp := by
  intro s word p
  refine ⟨congrArg Host.Outcome.next ?pld, congrArg Host.Outcome.next ?plp⟩
  case pld => exact pld_eq_pulledNew (s.advance 1)
  case plp => exact plp_eq_pulledStatus (s.advance 1)

end Sys2Proof
end

section
/-! PROOFS. The transfers to each destination, PC past the instruction (R250 to R261, R263), and XCE for each value of C
(R262). -/

namespace Sys2Proof.Claims

open Sys2Proof Sys2Proof.Machine

section

variable (s : State) (i : Instr) (v : Word)

/-- The value stored and the value transferred have the same N and Z at the index width (R22, R250). -/
theorem indexFlags_indexValue : indexFlags s (indexValue s v) = indexFlags s v := by
  unfold indexFlags indexValue
  cases s.x8 <;> simp

/-- A transfer to X, PC past the instruction (R251, R257, R263). -/
theorem toX_eq_indexValue :
    (s.advance i.length).toX v = { s with pc := past s i, x := indexValue s v, p := indexFlags s v } := by
  rw [← indexFlags_indexValue]
  exact indexX_eq s i (loByte v) v

/-- A transfer to Y, PC past the instruction (R252, R260). -/
theorem toY_eq_indexValue :
    (s.advance i.length).toY v = { s with pc := past s i, y := indexValue s v, p := indexFlags s v } := by
  rw [← indexFlags_indexValue]
  exact indexY_eq s i (loByte v) v

/-- A transfer to the accumulator, PC past the instruction (R258, R261). -/
theorem toAcc_eq_accResult :
    (s.advance i.length).toAcc v = accResult s i (loByte v, nz s.p 8 (loByte v).toNat) (v, nz s.p 16 v.toNat) :=
  accumulator_eq_accResult s i (loByte v) v

/-- A transfer to S moves S alone: SL under SH = 01 in Emulation mode (R254, R259). -/
theorem toSp_eq : s.toSp v = { s with sp := if s.e then mkWord 0x01 (loByte v) else v } := by
  unfold State.toSp
  cases s.e <;> rfl

theorem tcd_eq_nz : s.tcd = { s with d := s.c, p := nz s.p 16 s.c.toNat } := by
  rw [← setNZ_eq_nz]
  rfl

theorem tdc_eq_nz : s.tdc = { s with c := s.d, p := nz s.p 16 s.d.toNat } := by
  rw [← setNZ_eq_nz]
  rfl

theorem tsc_eq_nz : s.tsc = { s with c := s.sp, p := nz s.p 16 s.sp.toNat } := by
  rw [← setNZ_eq_nz]
  rfl

end

variable {s : State}

/-- Entering Emulation mode: the exchange, then the locks (R262). -/
theorem xce_of_carry (hc : s.p.c = true) :
    s.xce = { s with e := true, p := { s.p with c := s.e } }.lockEmulation := by
  simp [State.xce, hc]

/-- Entering Native mode: the exchange alone (R262; D25). -/
theorem xce_of_no_carry (hc : s.p.c = false) : s.xce = { s with e := false, p := { s.p with c := s.e } } := by
  simp [State.xce, hc]

end Sys2Proof.Claims

namespace Sys2Proof

open Sys2Proof.Machine Sys2Proof.Claims

/-- Settles O49: each of the twelve is the transfer to its destination. -/
theorem transfers : Obligations.Transfers := by
  refine ⟨fun s => ⟨congrArg Host.Outcome.next ?tax, congrArg Host.Outcome.next ?tay, congrArg Host.Outcome.next ?tsx,
    congrArg Host.Outcome.next ?txy, congrArg Host.Outcome.next ?tyx, congrArg Host.Outcome.next ?txa,
    congrArg Host.Outcome.next ?tya, congrArg Host.Outcome.next ?tcd, congrArg Host.Outcome.next ?tdc,
    congrArg Host.Outcome.next ?tsc, congrArg Host.Outcome.next ?tcs, congrArg Host.Outcome.next ?txs⟩,
    rfl, rfl, rfl, rfl, rfl, rfl, rfl, rfl, rfl, rfl, rfl, rfl⟩
  case tax => exact toX_eq_indexValue s .tax s.c
  case tay => exact toY_eq_indexValue s .tay s.c
  case tsx => exact toX_eq_indexValue s .tsx s.sp
  case txy => exact toY_eq_indexValue s .txy s.x
  case tyx => exact toX_eq_indexValue s .tyx s.y
  case txa => exact toAcc_eq_accResult s .txa s.x
  case tya => exact toAcc_eq_accResult s .tya s.y
  case tcd => exact tcd_eq_nz (s.advance 1)
  case tdc => exact tdc_eq_nz (s.advance 1)
  case tsc => exact tsc_eq_nz (s.advance 1)
  case tcs => exact toSp_eq (s.advance 1) s.c
  case txs => exact toSp_eq (s.advance 1) s.x

/-- Settles O50: the exchange for each value of C, and that no other instruction changes E. -/
theorem xceExchanges : Obligations.XceExchanges := by
  refine ⟨fun s => ⟨fun hc => congrArg Host.Outcome.next ?emulation, fun hc => congrArg Host.Outcome.next ?native⟩,
    fun _ _ _ => eq_xce_of_exec_e_ne, rfl⟩
  case emulation => exact xce_of_carry (s := s.advance 1) hc
  case native => exact xce_of_no_carry (s := s.advance 1) hc

end Sys2Proof
end

section
/-! PROOFS. Calls and returns: what they push and pull, and where they go (R273 to R277). -/

namespace Sys2Proof.Claims

open Sys2Proof Sys2Proof.Machine

/-- JSR `(a,x)` pushes the address of its last byte and goes through its table in the state the pushes leave (R72, R273). -/
theorem pushedNew_jsrIndexed (s : State) (a : Word) :
    let p := s.lateOperand a + s.x
    PushedNew s (s.jsrIndexed a)
      (mkWord ((s.jsrIndexed a).readByte (mkAddr s.pbr (p + 1))) ((s.jsrIndexed a).readByte (mkAddr s.pbr p))) s.pbr
      [hiByte (s.pc + 2), loByte (s.pc + 2)] := by
  have h := pushedNew_foldl_pushNew8 s 3 (s.jsrIndexed a).pc s.pbr (bytes := [hiByte (s.pc + 2), loByte (s.pc + 2)])
    (by simp)
  simp only [State.jsrIndexed, State.endNew_eq] at h ⊢
  exact h

/-- JSL pushes PBR and the address of its last byte, and jumps (R274). -/
theorem pushedNew_callLong (s : State) (bank : Byte) (a : Word) :
    PushedNew s (s.callLong (mkAddr bank a)) a bank [s.pbr, hiByte (s.pc + 3), loByte (s.pc + 3)] := by
  have h := pushedNew_foldl_pushNew8 s 4 a bank (bytes := [s.pbr, hiByte (s.pc + 3), loByte (s.pc + 3)]) (by simp)
  rw [State.callLong, State.jumpLong_mkAddr]
  simp only [State.endNew_eq] at h ⊢
  exact h

theorem rts_eq_pulled (s : State) : s.rts = { s with sp := up s 2, pc := pulledWord s + 1 } := by
  rw [State.rts, pull16_eq_pulled]

theorem rtl_eq_pulledNew (s : State) :
    s.rtl = { s with sp := newEnd s (s.sp + 3), pc := pulledNewWord s + 1, pbr := pulledNew s 3 } := by
  have hthird : s.sp + 2 + 1 = s.sp + 3 := BitVec.add_assoc s.sp 2 1
  rw [State.rtl, pullNew16_eq_pulledNew]
  simp only [State.endNew_eq, State.pullNew8, hthird]
  rfl

/-- `t` stands where `k` ordinary pulls leave `s`, over the same memory; other registers may differ. -/
structure AfterPulls (s : State) (k : Nat) (t : State) : Prop where
  /-- Memory stays. -/
  mem : t.mem = s.mem
  /-- The part stays. -/
  config : t.config = s.config
  /-- The mode stays. -/
  e : t.e = s.e
  /-- S has moved (R221). -/
  sp : t.sp = up s k

namespace AfterPulls

variable {s t : State} {k : Nat}

theorem up_eq (h : AfterPulls s k t) (n : Nat) : up t n = up s (k + n) := by
  have hsp : t.sp = up s k := h.sp
  unfold up at hsp ⊢
  rw [h.e, hsp]
  cases s.e <;> simp [BitVec.ofNat_add, add_assoc]

theorem pulled_eq (h : AfterPulls s k t) (n : Nat) : pulled t n = pulled s (k + n) := by
  rw [pulled, pulled, h.up_eq, State.readByte, h.mem, h.config, State.readByte]

/-- The next pull reads the next byte. -/
theorem pull8_eq (h : AfterPulls s k t) : t.pull8 = (pulled s (k + 1), { t with sp := up s (k + 1) }) := by
  rw [pull8_eq_pulled, h.pulled_eq, h.up_eq]

/-- The next two pulls read the next word. -/
theorem pull16_eq (h : AfterPulls s k t) :
    t.pull16 = (mkWord (pulled s (k + 2)) (pulled s (k + 1)), { t with sp := up s (k + 2) }) := by
  rw [pull16_eq_pulled, pulledWord, h.pulled_eq, h.pulled_eq, h.up_eq]

end AfterPulls

/-- Pulling P moves S by one byte (R237). -/
theorem afterPulls_plp (s : State) : AfterPulls s 1 s.plp := by
  rw [plp_eq_pulledStatus]
  exact ⟨rfl, rfl, rfl, rfl⟩

/-- RTI in closed form: P from the first byte pulled, PC from the next two, in Native mode PBR from the fourth (R277). -/
theorem returnFromInterrupt_eq_pulled (s : State) :
    let p := pulledStatus s (pulled s 1)
    s.returnFromInterrupt =
      { s with
        sp := up s (if s.e then 3 else 4)
        p := p
        x := cutIndex s p s.x
        y := cutIndex s p s.y
        pc := mkWord (pulled s 3) (pulled s 2)
        pbr := if s.e then s.pbr else pulled s 4 } := by
  have hload : s.pull8.2.loadP s.pull8.1 = s.plp := rfl
  have hafter : AfterPulls s 1 s.plp := afterPulls_plp s
  by_cases he : s.e = true
  case pos =>
    rw [State.returnFromInterrupt_emulation s he, hload, hafter.pull16_eq, plp_eq_pulledStatus, if_pos he, if_pos he]
  case neg =>
    have hbank : AfterPulls s 3 { s.plp with sp := up s 3 } := ⟨hafter.mem, hafter.config, hafter.e, rfl⟩
    rw [State.returnFromInterrupt_native s (by simpa using he), hload, hafter.pull16_eq, hbank.pull8_eq,
      plp_eq_pulledStatus, if_neg he, if_neg he]

/-- RTI does not look at PC (R277). -/
theorem exec_rti_eq_pulled (s : State) :
    let p := pulledStatus s (pulled s 1)
    exec .rti s =
      .next { s with
        sp := up s (if s.e then 3 else 4)
        p := p
        x := cutIndex s p s.x
        y := cutIndex s p s.y
        pc := mkWord (pulled s 3) (pulled s 2)
        pbr := if s.e then s.pbr else pulled s 4 } :=
  congrArg Host.Outcome.next (returnFromInterrupt_eq_pulled (s.advance 1))

end Sys2Proof.Claims

namespace Sys2Proof

open Sys2Proof.Machine Sys2Proof.Claims

/-- Settles O52: the three calls as pushes of their bytes; JSR `(a,x)` reads its table behind them. -/
theorem callsStackReturnAddress : Obligations.CallsStackReturnAddress := by
  refine fun s => ⟨fun a => ⟨_, rfl, ?jsr⟩, fun a => ⟨_, rfl, ?indexed⟩, fun bank a => ⟨_, rfl, ?jsl⟩⟩
  case jsr => exact pushed_foldl_push8 s 3 a (bytes := [hiByte (s.pc + 2), loByte (s.pc + 2)]) (by simp)
  case indexed =>
    rw [← lateOperand_eq_lateHigh]
    exact pushedNew_jsrIndexed s a
  case jsl => exact pushedNew_callLong s bank a

/-- Settles O53: one word pulled, and one added to it. -/
theorem rtsReturns : Obligations.RtsReturns := ⟨fun s => congrArg Host.Outcome.next (rts_eq_pulled s), rfl⟩

/-- Settles O54: RTL by three `New` pulls, RTI by P and what stands above it. -/
theorem rtlAndRtiReturn : Obligations.RtlAndRtiReturn :=
  fun s => ⟨congrArg Host.Outcome.next (rtl_eq_pulledNew s), exec_rti_eq_pulled s⟩

end Sys2Proof
end

section
/-! PROOFS. The interrupt sequence as a list of pushes and a jump through the vector, also where late ABORTs fall into it, and the
RTI behind it (R277, R310, R314, R320 to R322). -/

namespace Sys2Proof.Claims

open Sys2Proof Sys2Proof.Machine

/-! ### The sequence -/

/-- The bytes an interrupt sequence stacks, in the order of their pushes (R320). -/
def stackedBytes (s : State) (k : Interrupt) (r : Word) : List Byte :=
  (if s.e then [] else [s.pbr]) ++ [hiByte r, loByte r, statusByte s (decide (k = .brk ∨ k = .cop))]

/-- In Emulation mode PBR is not stacked (R320). -/
theorem length_stackedBytes (s : State) (k : Interrupt) (r : Word) :
    (stackedBytes s k r).length = if s.e then 3 else 4 := by
  unfold stackedBytes
  cases s.e <;> rfl

/-- The sequence stacks its bytes with ordinary pushes. -/
theorem stackInterrupt_eq_foldl (s : State) (k : Interrupt) (r : Word) :
    s.stackInterrupt k r = (stackedBytes s k r).foldl State.push8 s := by
  unfold State.stackInterrupt stackedBytes
  rw [toByte_eq_statusByte, software_eq_decide]
  cases s.e <;> rfl

/-- The sequence moves S past its bytes and writes them at their slots; the other registers wait for the jump. -/
theorem stackInterrupt_eq (s : State) (k : Interrupt) (r : Word) :
    s.stackInterrupt k r =
      { s with sp := down s (if s.e then 3 else 4), mem := memAfter s (atSlots (down s) (stackedBytes s k r)) } := by
  rw [stackInterrupt_eq_foldl, foldl_push_eq (push := State.push8) down_zero (fun _ _ => rfl) down_push8,
    length_stackedBytes]

/-- No stacked byte lies over another. -/
theorem stackedBytes_distinct (s : State) (k : Interrupt) (r : Word) :
    (atSlots (down s) (stackedBytes s k r)).Pairwise
      fun v w => physAddr s.config.variant v.1 ≠ physAddr s.config.variant w.1 := by
  refine atSlots_distinct s.config.variant fun i j hij hj => down_ne s hij (hj.trans_le ?_)
  rw [length_stackedBytes]
  split <;> simp

/-- Taking an interrupt is the sequence of R320 to R322. -/
theorem enters_takeInterrupt (s : State) (k : Interrupt) (r : Word) : Enters k r s (s.takeInterrupt k r) := by
  rw [State.takeInterrupt_eq, stackInterrupt_eq, State.readWord0, bank0_vector, bank0_vector_succ]
  exact ⟨rfl, (writes_memAfter s (stackedBytes_distinct s k r)).then_registers rfl rfl⟩

/-- The sequence takes its return address as given and loads PC, so PC itself does not matter to it. -/
theorem enters_takeInterrupt_advance (s : State) (n : Nat) (k : Interrupt) (r : Word) :
    Enters k r s ((s.advance n).takeInterrupt k r) := enters_takeInterrupt (s.advance n) k r

/-- What a late ABORT leaves of an instruction or sequence is what the statements say of it (R314; log 24). -/
theorem discardLate_eq_leftLate (s u : State) : s.discardLate u = leftLate s u := by
  rw [discardLate_eq]
  simp [leftLate, cutIndex]

/-- A sequence under late ABORTs: each leaves what `leftLate` says, and the ABORT sequence follows (R314; log 24). -/
theorem entersUnder_interrupted (s : State) (n : Nat) (k : Interrupt) (r : Word) :
    EntersUnder n k r s (s.interrupted n k r) := by
  induction n generalizing s k with
  | zero => exact enters_takeInterrupt s k r
  | succ n ih =>
    refine ⟨s.takeInterrupt k r, enters_takeInterrupt s k r, ?_⟩
    rw [← discardLate_eq_leftLate]
    exact ih _ .abort

/-! ### The return -/

/-- Pulling back what was pushed last leads to the slot before it (R220, R221). -/
theorem up_of_sp_eq_down {s t : State} {i j : Nat} (he : t.e = s.e) (hsp : t.sp = down s (i + j)) :
    up t j = down s i := by
  unfold up
  unfold down at hsp ⊢
  rw [he, hsp]
  cases s.e <;> simp [BitVec.ofNat_add, sub_add_eq_sub_sub]

/-- The byte pushed last but `post.length` is the one that pull `post.length + 1` reads (R220, R221). -/
theorem pulled_of_writes {s t : State} {bytes pre post : List Byte} {b : Byte}
    (hwrites : Writes s t (atSlots (down s) bytes)) (he : t.e = s.e) (hsp : t.sp = down s bytes.length)
    (hbytes : bytes = pre ++ b :: post) : pulled t (post.length + 1) = b := by
  have hslot : up t (post.length + 1) = down s pre.length := up_of_sp_eq_down he (by simpa [hbytes] using hsp)
  have hmem : (mkAddr 0 (down s pre.length), b) ∈ atSlots (down s) bytes :=
    List.mem_map.mpr ⟨(b, pre.length), List.mem_zipIdx_iff_getElem?.mpr (by simp [hbytes]), rfl⟩
  rw [pulled, hslot]
  exact hwrites.1 _ hmem

/-- P loaded from its own byte is P, in Emulation mode whatever bits 5 and 4 hold (R231, R237; D23). -/
theorem ofPulled_toByte (p : Status) (e four : Bool) : p.ofPulled e (p.toByte e four) = p := by
  simp only [Status.ofPulled, Status.toByte, BitVec.getLsbD_append, BitVec.getLsbD_ofBool]
  cases e <;> simp

/-- P pulled back from the byte that was stacked, in a state whose mode and widths are those of the push. -/
theorem pulledStatus_statusByte {s t : State} (he : t.e = s.e) (hm : t.p.m = s.p.m) (hx : t.p.x = s.p.x) (four : Bool) :
    pulledStatus t (statusByte s four) = s.p := by
  have hpulled : pulledStatus t (statusByte s four) = s.p.ofPulled s.e (statusByte s four) := by
    rw [pulledStatus, he, hm, hx]
    rfl
  rw [hpulled, ← toByte_eq_statusByte, ofPulled_toByte]

/-- Where an index register is cut already, the cut changes nothing (R22). -/
theorem cutIndex_of_hiByte_zero {s : State} {p : Status} {v : Word} (h : s.e = false → p.x = true → hiByte v = 0) :
    cutIndex s p v = v := by
  unfold cutIndex
  split
  case isTrue hcut =>
    have hhigh : mkWord (hiByte v) (loByte v) = zext16 (loByte v) := by
      rw [h hcut.1 hcut.2]
      exact BitVec.eq_of_toNat_eq (by simp)
    rw [← hhigh, mkWord_hiByte_loByte]
  case isFalse => rfl

section

variable {s t : State} {k : Interrupt} {r : Word}

theorem Enters.e (h : Enters k r s t) : t.e = s.e := congrArg (·.e) h.1

/-- The sequence leaves S past its bytes. -/
theorem Enters.sp (h : Enters k r s t) : t.sp = down s (stackedBytes s k r).length := by
  rw [length_stackedBytes]
  exact congrArg (·.sp) h.1

/-- The pulls of RTI read what the sequence stacked, and S comes back. -/
theorem Enters.pulled (h : Enters k r s t) :
    pulled t 1 = statusByte s (decide (k = .brk ∨ k = .cop)) ∧ pulled t 2 = loByte r ∧ pulled t 3 = hiByte r ∧
      (s.e = false → pulled t 4 = s.pbr) ∧ up t (if s.e then 3 else 4) = s.sp := by
  have hwrites : Writes s t (atSlots (down s) (stackedBytes s k r)) := h.2
  have hread {pre post : List Byte} {b : Byte} : stackedBytes s k r = pre ++ b :: post →
      Claims.pulled t (post.length + 1) = b := pulled_of_writes hwrites h.e h.sp
  refine ⟨?status, ?low, ?high, fun he => ?bank, ?sp⟩
  case status =>
    refine hread (pre := (if s.e then [] else [s.pbr]) ++ [hiByte r, loByte r]) (post := []) ?_
    rw [stackedBytes, List.append_assoc]
    rfl
  case low =>
    refine hread (pre := (if s.e then [] else [s.pbr]) ++ [hiByte r])
      (post := [statusByte s (decide (k = .brk ∨ k = .cop))]) ?_
    rw [stackedBytes, List.append_assoc]
    rfl
  case high => exact hread (pre := if s.e then [] else [s.pbr]) (post := [_, _]) rfl
  case bank =>
    exact hread (pre := []) (post := [hiByte r, loByte r, statusByte s (decide (k = .brk ∨ k = .cop))])
      (by simp [stackedBytes, he])
  case sp =>
    rw [← length_stackedBytes s k r, ← down_zero s]
    exact up_of_sp_eq_down h.e (by rw [h.sp, Nat.zero_add])

/-- The status pulled is the one before the sequence. -/
theorem Enters.pulledStatus (h : Enters k r s t) : pulledStatus t (Claims.pulled t 1) = s.p := by
  rw [h.pulled.1]
  exact pulledStatus_statusByte h.e (congrArg (·.p.m) h.1) (congrArg (·.p.x) h.1) _

/-- RTI in any state the sequence leaves: what was stacked comes back, and the sequence changed no more than that (R277, R325,
R326). -/
theorem exec_rti_of_enters (hinv : s.ModeInv) (h : Enters k r s t) :
    exec .rti t =
      .next { s with
        pc := r
        pbr := if s.e then 0 else s.pbr
        mem := t.mem
        nmiPending := if k = .nmi then false else s.nmiPending
        abortPending := if k = .abort then false else s.abortPending } := by
  obtain ⟨-, hlow, hhigh, hbank, hsp⟩ := h.pulled
  have hpbr : (if s.e then t.pbr else pulled t 4) = if s.e then 0 else s.pbr := by
    split
    case isTrue => exact congrArg (·.pbr) h.1
    case isFalse he => exact hbank (by simpa using he)
  have hcut {v : Word} (hv : s.x8 = true → hiByte v = 0) : cutIndex t s.p v = v :=
    cutIndex_of_hiByte_zero fun _ hx => hv (by simp [State.x8, hx])
  have hx : cutIndex t s.p t.x = s.x := by
    rw [congrArg State.x h.1]
    exact hcut fun h8 => (hinv.2 h8).1
  have hy : cutIndex t s.p t.y = s.y := by
    rw [congrArg State.y h.1]
    exact hcut fun h8 => (hinv.2 h8).2
  rw [exec_rti_eq_pulled, h.pulledStatus, hlow, hhigh, mkWord_hiByte_loByte, h.e, hsp, hpbr, hx, hy]
  exact congrArg (fun u : State => Host.Outcome.next { u with
    sp := s.sp, p := s.p, x := s.x, y := s.y, pc := r, pbr := if s.e then 0 else s.pbr, e := s.e }) h.1

end

end Sys2Proof.Claims

namespace Sys2Proof

open Sys2Proof.Machine Sys2Proof.Claims

/-- Settles O55: the traps are the interrupt sequence, with the address two bytes on. -/
theorem breakAndCopTrap : Obligations.BreakAndCopTrap :=
  fun s _ => ⟨⟨_, rfl, enters_takeInterrupt_advance s 2 .brk (s.pc + 2)⟩,
    ⟨_, rfl, enters_takeInterrupt_advance s 2 .cop (s.pc + 2)⟩⟩

/-- Settles O17: the return from what the sequence leaves. -/
theorem interruptThenRtiResumes : Obligations.InterruptThenRtiResumes :=
  fun s k r hinv => exec_rti_of_enters hinv (enters_takeInterrupt s k r)

end Sys2Proof
end

section
/-! PROOFS. Block moves: one byte (R292 to R294), and the whole count with 16-bit index registers (D9). -/

namespace Sys2Proof.Claims

open Sys2Proof Sys2Proof.Machine

section

variable (s : State) (delta : Int) (dst src : Byte)

/-- C has counted down past 0 when it was 0 (R294, D9). -/
theorem sub_one_eq_ffff_iff (c : Word) : c - 1 = 0xFFFF ↔ c = 0 := by
  constructor <;> intro h <;> bv_omega

/-- One pass of a block move in closed form (R294). -/
theorem blockStep_eq_movedIndex :
    s.blockStep delta dst src =
      { s with
        mem := (s.writeByte (mkAddr dst s.y) (s.readByte (mkAddr src s.x))).mem
        dbr := dst
        x := movedIndex s s.x delta
        y := movedIndex s s.y delta
        c := s.c - 1
        pc := if s.c = 0 then s.pc + 3 else s.pc } := by
  rw [movedIndex_eq, movedIndex_eq]
  simp only [State.blockStep, sub_one_eq_ffff_iff]
  cases s.x8 <;> rfl

/-- It writes one byte, to the destination bank. -/
theorem writes_blockStep :
    Writes s (s.blockStep delta dst src) [(mkAddr dst s.y, s.readByte (mkAddr src s.x))] := by
  have hbyte : Writes s (s.writeByte (mkAddr dst s.y) (s.readByte (mkAddr src s.x)))
      [(mkAddr dst s.y, s.readByte (mkAddr src s.x))] := (writes_nil s).writeByte rfl nofun _
  rw [blockStep_eq_movedIndex]
  exact hbyte.then_registers rfl rfl

/-- One pass, memory aside: what the statement of one byte says of the registers. -/
theorem blockStep_registers :
    s.blockStep delta dst src =
      { s with
        mem := (s.blockStep delta dst src).mem, dbr := dst, x := movedIndex s s.x delta, y := movedIndex s s.y delta
        c := s.c - 1, pc := if s.c = 0 then s.pc + 3 else s.pc } := by
  rw [blockStep_eq_movedIndex]

end

/-- An instruction that always answers, executed `n` times. -/
theorem execTimes_eq_iterate {i : Instr} {f : State → State} (h : ∀ s, exec i s = .next (f s)) (n : Nat) (s : State) :
    execTimes i n s = .next (f^[n] s) := by
  induction n generalizing s with
  | zero => rfl
  | succ n ih => rw [execTimes, h, Function.iterate_succ_apply, ← ih]

/-- One pass with 16-bit index registers moves them by one step (R294). -/
theorem blockStep_of_wide (delta : Int) (dst src : Byte) {s : State} (hwide : s.x8 = false) :
    s.blockStep delta dst src =
      { s with
        mem := (s.blockStep delta dst src).mem
        dbr := dst
        x := s.x + BitVec.ofInt 16 delta
        y := s.y + BitVec.ofInt 16 delta
        c := s.c - 1
        pc := if s.c = 0 then s.pc + 3 else s.pc } := by
  have hmoved (v : Word) : movedIndex s v delta = v + BitVec.ofInt 16 delta := by
    rw [movedIndex_eq, hwide]
    rfl
  rw [← hmoved, ← hmoved]
  exact blockStep_registers s delta dst src

/-- The passes until C has counted down past 0: the registers in closed form, whatever has become of memory (R294, D9). -/
theorem blockStep_iterate (delta : Int) (dst src : Byte) {s : State} (hwide : s.x8 = false) :
    ∃ m, (fun u : State => u.blockStep delta dst src)^[s.c.toNat + 1] s =
      { s with
        mem := m
        dbr := dst
        x := s.x + (s.c + 1) * BitVec.ofInt 16 delta
        y := s.y + (s.c + 1) * BitVec.ofInt 16 delta
        c := 0xFFFF
        pc := s.pc + 3 } := by
  generalize hn : s.c.toNat = n
  induction n generalizing s with
  | zero =>
    have hc : s.c = 0 := BitVec.eq_of_toNat_eq hn
    refine ⟨(s.blockStep delta dst src).mem, ?_⟩
    rw [Function.iterate_one, blockStep_of_wide delta dst src hwide, hc]
    simp
  | succ n ih =>
    have hc : s.c ≠ 0 := fun h => by simp [h] at hn
    have hstep := blockStep_of_wide delta dst src hwide
    rw [if_neg hc] at hstep
    have hmove (v : Word) : v + BitVec.ofInt 16 delta + (s.c - 1 + 1) * BitVec.ofInt 16 delta =
        v + (s.c + 1) * BitVec.ofInt 16 delta := by ring
    obtain ⟨m, hm⟩ := ih (s := s.blockStep delta dst src) (by rw [hstep]; exact hwide) (by rw [hstep]; bv_omega)
    refine ⟨m, ?_⟩
    rw [Function.iterate_succ_apply, hm, hstep, hmove, hmove]

end Sys2Proof.Claims

namespace Sys2Proof

open Sys2Proof.Machine Sys2Proof.Claims

/-- Settles O56: one pass up for MVN, one down for MVP. -/
theorem blockMoveByte : Obligations.BlockMoveByte :=
  fun s dst src => ⟨⟨_, rfl, blockStep_registers s 1 dst src, writes_blockStep s 1 dst src⟩,
    ⟨_, rfl, blockStep_registers s (-1) dst src, writes_blockStep s (-1) dst src⟩⟩

/-- Settles O57: the passes of the whole count, up and down. -/
theorem blockMoveWhole : Obligations.BlockMoveWhole := by
  intro s dst src hwide
  obtain ⟨m, hup⟩ := blockStep_iterate 1 dst src hwide
  obtain ⟨n, hdown⟩ := blockStep_iterate (-1) dst src hwide
  refine ⟨⟨_, (execTimes_eq_iterate (fun _ => rfl) _ s).trans (congrArg Host.Outcome.next hup), ?up⟩,
    ⟨_, (execTimes_eq_iterate (fun _ => rfl) _ s).trans (congrArg Host.Outcome.next hdown), ?down⟩⟩
  case up =>
    have hone : BitVec.ofInt 16 1 = 1 := rfl
    have hmove (v : Word) : v + (s.c + 1) * BitVec.ofInt 16 1 = v + s.c + 1 := by rw [hone]; ring
    exact ⟨rfl, hmove s.x, hmove s.y, rfl, rfl, rfl, rfl, rfl, rfl⟩
  case down =>
    have hone : BitVec.ofInt 16 (-1) = -1 := rfl
    have hmove (v : Word) : v + (s.c + 1) * BitVec.ofInt 16 (-1) = v - s.c - 1 := by rw [hone]; ring
    exact ⟨rfl, hmove s.x, hmove s.y, rfl, rfl, rfl, rfl, rfl, rfl⟩

end Sys2Proof
end

section
/-! PROOFS. REP, SEP, STP, WAI, XBA and the reserved opcode 42 (R295 to R300). -/

namespace Sys2Proof

open Sys2Proof.Machine Sys2Proof.Claims

/-- SEP sets its flags, and cuts XH and YH where X is 1 afterwards in Native mode (R22, R296). -/
theorem sep_eq_cutIndex (s : State) (mask : Byte) :
    s.sep mask =
      { s with
        p := s.p.setBits s.e mask
        x := cutIndex s (s.p.setBits s.e mask) s.x
        y := cutIndex s (s.p.setBits s.e mask) s.y } := by
  rw [State.sep, State.truncateIndex_eq]
  simp [cutIndex]

/-- XBA in numbers: N and Z are those of the old B (R298). -/
theorem xba_eq_nz (s : State) :
    s.xba = { s with c := mkWord (loByte s.c) (hiByte s.c), p := nz s.p 8 (hiByte s.c).toNat } := by
  rw [← setNZ_eq_nz]
  rfl

/-- Settles O58: REP by its definition, SEP with its cut. -/
theorem repAndSep : Obligations.RepAndSep :=
  fun s mask => ⟨rfl, congrArg Host.Outcome.next (sep_eq_cutIndex (s.advance 2) mask)⟩

/-- Settles O44: opcode 42 is PC past its two bytes. -/
theorem reservedOpcodeDoesNothing : Obligations.ReservedOpcodeDoesNothing := fun _ _ => ⟨rfl, rfl⟩

/-- Settles O59: each is PC past its one byte and its latch. -/
theorem stopAndWait : Obligations.StopAndWait := fun _ => ⟨rfl, rfl⟩

/-- Settles O60: the exchange, with N and Z as numbers. -/
theorem xbaExchanges : Obligations.XbaExchanges :=
  ⟨fun s => congrArg Host.Outcome.next (xba_eq_nz (s.advance 1)), rfl⟩

end Sys2Proof
end

section
/-! PROOFS. What happens between two steps (R47, R80, R340), and the two boundaries that execute nothing: RES and the stopped
state (R315, R331, R352). -/

namespace Sys2Proof.Claims

open Sys2Proof Sys2Proof.Machine

/-- Memory as these bytes of another master leave it (R80). -/
def writtenBy (s : State) (ws : List (Addr × Byte)) : Memory :=
  ws.foldl (fun m w => m.write (physAddr s.config.variant w.1) w.2) s.mem

theorem applyBusWrites_mem (s : State) (ws : List (Addr × Byte)) : (s.applyBusWrites ws).mem = writtenBy s ws := by
  induction ws generalizing s with
  | nil => rfl
  | cons w rest ih => exact ih (s.writeByte w.1 w.2)

/-- The events in closed form: each input has its own field, and another master's bytes go to memory alone (R47, R80, R340). -/
theorem takeEvents_eq_writtenBy (s : State) (inp : StepInput) :
    s.takeEvents inp =
      { popped s with
        mem := writtenBy s inp.busWrites
        p := { s.p with v := s.p.v || (s.hasSo && inp.soEdge) }
        nmiPending := s.nmiPending || (inp.nmiEdge && !s.stopped) } := by
  have hmem : (s.enterStep.applyBusWrites inp.busWrites).mem = writtenBy s inp.busWrites :=
    applyBusWrites_mem s.enterStep inp.busWrites
  rw [takeEvents_eq, hmem]
  simp [popped, State.mxJustChanged]

/-- Two states that the events between the steps lead to the same state step alike, where their inputs differ in events only:
the boundary sees reset, the ABORTs and the lines (R316). -/
theorem step_eq_step_of_takeEvents {s t : State} {inp : StepInput} {so nmi : Bool} {ws : List (Addr × Byte)}
    (hs : s.input = inp) (ht : t.input = { inp with soEdge := so, nmiEdge := nmi, busWrites := ws })
    (h : s.takeEvents inp = t.takeEvents { inp with soEdge := so, nmiEdge := nmi, busWrites := ws }) :
    step s = step t := by
  rw [step_eq, step_eq, hs, ht, h]
  rfl

end Sys2Proof.Claims

namespace Sys2Proof

open Sys2Proof.Machine Sys2Proof.Claims

/-- Settles O12: with the event taken out of the input and its effect put into the state, the events leave the same. -/
theorem eventsLandBeforeBoundary : Obligations.EventsLandBeforeBoundary := by
  intro s inp rest hinputs
  have hinput : s.input = inp := by
    rw [State.input, hinputs]
    rfl
  refine ⟨fun hso hpart => step_eq_step_of_takeEvents hinput rfl ?so802,
    fun hso hpart => step_eq_step_of_takeEvents hinput rfl ?so816,
    fun a v ws hws => step_eq_step_of_takeEvents hinput rfl ?bus,
    fun hnmi hstopped => step_eq_step_of_takeEvents hinput rfl ?nmi⟩
  all_goals rw [takeEvents_eq_writtenBy, takeEvents_eq_writtenBy, popped, popped, hinputs]
  case so802 => simp [State.hasSo, hpart, hso, writtenBy]
  case so816 => simp [State.hasSo, hpart, writtenBy]
  case bus =>
    rw [hws]
    rfl
  case nmi => simp [hnmi, hstopped, writtenBy, State.hasSo]

/-- Settles O13: RES by the fields of the reset sequence, the stop by what the events leave. -/
theorem resRestartsAndStopHolds : Obligations.ResRestartsAndStopHolds := by
  refine ⟨fun s hres => ⟨(s.takeEvents s.input).resetSequence, State.boundary_of_res hres, ?values⟩,
    fun s hstopped hres hbus => ?stopped⟩
  case values =>
    refine ⟨rfl, rfl, rfl, hiByte_mkWord _ _, hiByte_zext16 _, hiByte_zext16 _, rfl, rfl, rfl, rfl, rfl, rfl, rfl, rfl,
      rfl, rfl, State.takeEvents_config s s.input, fun hbus a => ?read⟩
    case read =>
      rw [takeEvents_eq_writtenBy, hbus]
      rfl
  case stopped =>
    rw [step_eq, takeEvents_eq_writtenBy, hbus]
    simp [State.boundary, hstopped, hres, popped, writtenBy]

end Sys2Proof
end

section
/-! PROOFS. Interrupts at the boundary and out of a wait, and the instruction an ABORT hits (R299, R312 to R317, R332, R333). -/

namespace Sys2Proof.Claims

open Sys2Proof Sys2Proof.Machine

variable {s : State}

/-- A step that answers with a sequence under late ABORTs enters the handler (R314, R320). -/
theorem exists_entersUnder {n : Nat} {k : Interrupt} {r : Word} {u : State}
    (h : step s = .next (u.interrupted n k r)) : ∃ t, step s = .next t ∧ EntersUnder n k r u t :=
  ⟨_, h, entersUnder_interrupted u n k r⟩

/-- With the interrupt lines alone, a step is the boundary on the state with its input taken. -/
theorem step_eq_boundary_popped (h : OnlyLines s.input) : step s = (popped s).boundary s.input := by
  rw [step_eq, takeEvents_eq_popped h]

/-- The state a wait goes on from when it ends, the ABORT of this step latched (R333). -/
def woken (s : State) : State :=
  { popped s with waiting := false, abortPending := s.abortPending || (s.hasAbort && s.input.abort) }

/-- A waiting step without RES is the wait (R316, R332). -/
theorem step_of_waiting (hlines : OnlyLines s.input) (hres : s.input.res = false) (hstopped : s.stopped = false)
    (hwaiting : s.waiting = true) : step s = .next ((popped s).waitStep s.input) := by
  rw [step_eq_boundary_popped hlines]
  simp [State.boundary, hres, popped, hstopped, hwaiting]

/-- Nothing wakes it: the wait goes on, with an ABORT latched (R333). -/
theorem waitStep_of_asleep (hnmi : s.nmiPending = false) (hirq : s.input.irqLow = false)
    (hrdy : s.input.rdyForcedHigh = false) :
    (popped s).waitStep s.input =
      { popped s with abortPending := s.abortPending || (s.hasAbort && s.input.abort) } := by
  have hasleep : ((popped s).latchAbort s.input).wakes s.input = false := by
    simp [State.wakes, State.latchAbort, popped, hnmi, hirq, hrdy]
  simp only [State.waitStep, hasleep]
  rfl

/-- Something wakes it: a latched ABORT first, then NMI, then an unmasked IRQ, or execution goes on (R332, R333; D20). -/
theorem waitStep_of_woken (h : s.nmiPending = true ∨ s.input.irqLow = true ∨ s.input.rdyForcedHigh = true) :
    (popped s).waitStep s.input =
      if s.hasAbort && (s.abortPending || (s.hasAbort && s.input.abort)) then
        (woken s).interrupted (lateCount s) .abort (s.pc - 1)
      else if s.nmiPending then (woken s).interrupted (lateCount s) .nmi s.pc
      else if s.input.irqLow && !s.p.i then (woken s).interrupted (lateCount s) .irq s.pc
      else woken s := by
  have hawake : ((popped s).latchAbort s.input).wakes s.input = true := by
    simpa [State.wakes, State.latchAbort, popped, or_assoc] using h
  simp only [State.waitStep, hawake, if_true]
  rw [← lateAborts_popped]
  rfl

/-- An ABORT in time discards the instruction the fetch finds, before an NMI or IRQ of the same boundary (R314, R317). -/
theorem step_of_aborted {i : Instr} {u : State} (hlines : OnlyLines s.input) (hres : s.input.res = false)
    (hstopped : s.stopped = false) (hwaiting : s.waiting = false) (habort : s.aborted s.input = true)
    (hfetch : s.fetch = .ok i) (hexec : exec i (popped s) = .next u) :
    step s = .next (((popped s).discard u).interrupted (lateCount s) .abort s.pc) := by
  have hrun : (popped s).runInstruction = .next u := by
    rw [State.runInstruction, fetch_popped, hfetch]
    exact hexec
  have habort' : (popped s).aborted s.input = true := habort
  rw [step_eq_boundary_popped hlines, ← lateAborts_popped]
  simp only [State.boundary, hres, habort', State.runAborted, hrun]
  simp [popped, hstopped, hwaiting]

/-- A late ABORT of BRK, COP or RTI leaves P, PBR and DBR of it, and the ABORT sequence follows (R314, note 3 of Table 9). -/
theorem runUnaborted_of_late {i : Instr} {u : State} {n : Nat} (hfetch : s.fetch = .ok i) (hexec : exec i s = .next u)
    (hlast : hasLastAbortableCycle i = true) :
    s.runUnaborted (n + 1) = .next ((leftLate s u).interrupted n .abort s.pc) := by
  have hrun : s.runInstruction = .next u := by
    rw [State.runInstruction, hfetch]
    exact hexec
  rw [← discardLate_eq_leftLate]
  simp [State.runUnaborted, hfetch, hrun, hlast]

end Sys2Proof.Claims

namespace Sys2Proof

open Sys2Proof.Machine Sys2Proof.Claims

/-- Settles O14: the boundary chooses NMI first, then an IRQ that I does not mask. -/
theorem hardwareInterruptsEnter : Obligations.HardwareInterruptsEnter := by
  intro s hlines hres habort hstopped hwaiting
  have habort' : (popped s).aborted s.input = false := habort
  refine ⟨fun hnmi => exists_entersUnder ?nmi, fun hnmi hirq hi => exists_entersUnder ?irq⟩
  case nmi =>
    rw [step_eq_boundary_popped hlines, ← lateAborts_popped]
    simp only [State.boundary, hres, habort']
    simp [popped, hstopped, hwaiting, hnmi]
  case irq =>
    rw [step_eq_boundary_popped hlines, ← lateAborts_popped]
    simp only [State.boundary, hres, habort']
    simp [popped, hstopped, hwaiting, hnmi, hirq, hi]

/-- Settles O15: the cases of a wait, each the branch of it that its conditions choose. -/
theorem waitingSteps : Obligations.WaitingSteps := by
  intro s hwaiting hstopped hlines hres latched wokenState
  have hstep : step s = .next ((popped s).waitStep s.input) := step_of_waiting hlines hres hstopped hwaiting
  refine ⟨fun ⟨hnmi, hirq, hrdy⟩ => ?asleep, fun hwakes => ?awake⟩
  case asleep => rw [hstep, waitStep_of_asleep hnmi hirq hrdy]
  case awake =>
    rw [waitStep_of_woken hwakes] at hstep
    refine ⟨fun ⟨hpart, hlatched⟩ => exists_entersUnder ?abort, fun hnone => ?unaborted⟩
    case abort => rwa [if_pos (Bool.and_eq_true_iff.mpr ⟨hpart, hlatched⟩)] at hstep
    case unaborted =>
      rw [if_neg (mt Bool.and_eq_true_iff.mp hnone)] at hstep
      refine ⟨fun hnmi => exists_entersUnder ?nmi, fun hnmi hirq hi => exists_entersUnder ?irq, fun hnmi hmask => ?goOn⟩
      case nmi => rwa [if_pos hnmi] at hstep
      case irq =>
        have hline : (s.input.irqLow && !s.p.i) = true := by simp [hirq, hi]
        rwa [hnmi, if_neg Bool.false_ne_true, if_pos hline] at hstep
      case goOn =>
        have hline : ¬(s.input.irqLow && !s.p.i) = true := by simpa using hmask
        rwa [hnmi, if_neg Bool.false_ne_true, if_neg hline] at hstep

/-- Settles O16: the fetch finds the instruction, and the boundary discards it, in time or late. -/
theorem abortDiscardsInstruction : Obligations.AbortDiscardsInstruction := by
  intro s i hpart hwf hbytes
  have hfetch : s.fetch = .ok i := State.fetch_of_holdsAt hwf hbytes
  obtain ⟨u, hexec⟩ := exec_next i (popped s)
  have hlate : lateCount s = s.input.lateAborts := if_pos hpart
  refine ⟨fun hlines hres hstopped hwaiting hline => ?inTime, fun n hreach hn hi => ?late⟩
  case inTime =>
    have habort : s.aborted s.input = true := by simpa [State.aborted, State.hasAbort, hpart] using hline
    have hstep := step_of_aborted hlines hres hstopped hwaiting habort hfetch hexec
    rw [hlate] at hstep
    obtain ⟨t, hnext, henters⟩ := exists_entersUnder hstep
    exact ⟨u, t, hexec, hnext, henters⟩
  case late =>
    have hlast : hasLastAbortableCycle i = true := by simpa [hasLastAbortableCycle] using hi
    have hstep := step_of_reachesInstruction hreach
    rw [hlate, hn, runUnaborted_of_late ((fetch_popped s).trans hfetch) hexec hlast] at hstep
    obtain ⟨t, hnext, henters⟩ := exists_entersUnder hstep
    exact ⟨u, t, hexec, hnext, henters⟩

end Sys2Proof
end

section
/-! PROOFS. Who writes PBR (R279): an instruction by its mnemonic, a boundary by the sequence it ends with. -/

namespace Sys2Proof.Machine

open Sys2Proof Sys2Proof.Claims

/-! ### `exec` -/

/-- The sequence makes PBR 00 (R320). -/
@[simp] theorem State.takeInterrupt_pbr (s : State) (k : Interrupt) (r : Word) : (s.takeInterrupt k r).pbr = 0 := rfl

/-- RTI pulls no PBR in Emulation mode (R277). -/
theorem returnFromInterrupt_pbr_of_emulation {s : State} (he : s.e = true) : s.returnFromInterrupt.pbr = s.pbr := by
  rw [returnFromInterrupt_eq_pulled]
  exact if_pos he

/-- An instruction that changes PBR is a long jump, call or return, or a trap, which makes it 00 (R279). -/
theorem exec_pbr_ne {i : Instr} {s t : State} (h : exec i s = .next t) (hpbr : t.pbr ≠ s.pbr) :
    (∃ a, i = .jmpLong a) ∨ (∃ a, i = .jml a) ∨ (∃ a, i = .jsl a) ∨ i = .rtl ∨ (i = .rti ∧ s.e = false) ∨
      (((∃ b, i = .brk b) ∨ (∃ b, i = .cop b)) ∧ t.pbr = 0) := by
  have hmnemonic : i.mnemonic ∈ [.JMP, .JML, .JSL, .RTL, .RTI, .BRK, .COP] :=
    blanked_of_ne (congrArg (·.pbr) (exec_unwritten h)) hpbr
  cases i
  case jmpLong | jml | jsl | rtl => simp
  case rti =>
    have he : s.e = false := by
      by_contra hemu
      cases h
      exact hpbr (returnFromInterrupt_pbr_of_emulation (s := s.advance 1) (by simpa using hemu))
    simp [he]
  case brk | cop =>
    cases h
    simp
  case jmpAbs | jmpAbsInd | jmpAbsXInd =>
    cases h
    exact absurd rfl hpbr
  all_goals simp [Instr.mnemonic, Instr.view] at hmnemonic

/-! ### The step -/

/-- The state is one that a hardware interrupt sequence leaves (R311, R320). -/
def LeftBySequence (t : State) : Prop :=
  ∃ k r u, (k = .nmi ∨ k = .irq ∨ k = .abort) ∧ t = State.takeInterrupt u k r ∧ t.pbr = 0

/-- However many late ABORTs fall into a hardware sequence, a hardware sequence comes last (R314). -/
theorem leftBySequence_interrupted (s : State) (n : Nat) {k : Interrupt} (r : Word)
    (hk : k = .nmi ∨ k = .irq ∨ k = .abort) : LeftBySequence (s.interrupted n k r) := by
  obtain ⟨u, j, -, hj, heq⟩ := interrupted_cases (fun _ => True) s n k r trivial fun _ _ _ => trivial
  rw [heq]
  refine ⟨j, r, u, ?_, rfl, rfl⟩
  rcases hj with rfl | rfl
  · exact hk
  · exact .inr (.inr rfl)

/-- A wait that goes on or merely ends leaves PBR alone; else it ends with a sequence (R332, R333). -/
theorem waitStep_pbr (s : State) (inp : StepInput) : (s.waitStep inp).pbr = s.pbr ∨ LeftBySequence (s.waitStep inp) := by
  unfold State.waitStep
  dsimp only
  split
  · split
    · exact .inr (leftBySequence_interrupted _ _ _ (.inr (.inr rfl)))
    · split
      · exact .inr (leftBySequence_interrupted _ _ _ (.inl rfl))
      · split
        · exact .inr (leftBySequence_interrupted _ _ _ (.inr (.inl rfl)))
        · exact .inl rfl
  · exact .inl rfl

/-- What runs under no ABORT in time ends with a sequence only if a late ABORT hit it (R314). -/
theorem runUnaborted_pbr {s t : State} {late : Nat} (h : s.runUnaborted late = .next t) :
    LeftBySequence t ∨ ∃ i, s.fetch = .ok i ∧ exec i s = .next t := by
  obtain ⟨i, u, hfetch, hexec, hrun⟩ := runUnaborted_cases s late
  rcases hrun with ⟨-, hrun⟩ | ⟨n, -, -, hrun⟩ <;> cases hrun.symm.trans h
  · exact .inr ⟨i, hfetch, hexec⟩
  · exact .inl (leftBySequence_interrupted _ _ _ (.inr (.inr rfl)))

/-- A boundary that changes PBR is a reset, ends with a sequence, or carries out an instruction (R279, R316). -/
theorem boundary_pbr_ne {s t : State} {inp : StepInput} (h : s.boundary inp = .next t) (hpbr : t.pbr ≠ s.pbr) :
    (inp.res = true ∧ t.pbr = 0) ∨ LeftBySequence t ∨ ∃ i, s.fetch = .ok i ∧ exec i s = .next t := by
  rcases boundary_cases s inp with ⟨hres, hb⟩ | ⟨-, hb⟩ | ⟨-, hb⟩ | ⟨-, i, u, -, -, hb⟩ | ⟨-, -, hb⟩ |
    ⟨-, -, -, hb⟩ | ⟨-, hb⟩
  case inr.inr.inr.inr.inr.inr => exact .inr (runUnaborted_pbr (hb.symm.trans h))
  all_goals cases hb.symm.trans h
  · exact .inl ⟨hres, rfl⟩
  · exact absurd rfl hpbr
  · exact .inr (.inl ((waitStep_pbr s inp).resolve_left hpbr))
  · exact .inr (.inl (leftBySequence_interrupted _ _ _ (.inr (.inr rfl))))
  · exact .inr (.inl (leftBySequence_interrupted _ _ _ (.inl rfl)))
  · exact .inr (.inl (leftBySequence_interrupted _ _ _ (.inr (.inl rfl))))

end Sys2Proof.Machine

namespace Sys2Proof

open Sys2Proof.Machine

/-- Settles O18: the instructions by what their mnemonics leave alone, the step along the cases of its boundary. -/
theorem programBankWriters : Obligations.ProgramBankWriters := by
  refine ⟨fun i s t => exec_pbr_ne, fun s t h hpbr => ?step⟩
  case step =>
    have hevents : (s.takeEvents s.input).pbr = s.pbr := by rw [takeEvents_eq]
    exact boundary_pbr_ne h (hevents ▸ hpbr)

end Sys2Proof
end
